-- ==== Sys2Proof/Word.lean ====
section
/-! DEFINITION. The sizes of the HB624 (scope file, Section 6): a byte, a halfword of 16 bits, a word of
32 bits, and the number ranges of tags, units and chunks. -/

namespace Sys2Proof

/-- One byte of a frame on the link. -/
abbrev Byte := BitVec 8

/-- A halfword: the width of every register of the host window. -/
abbrev Halfword := BitVec 16

/-- A word: the unit of request, payload and reply lengths. -/
abbrev Word := BitVec 32

/-- A tag, the number of one of the 32 transaction records (R1). -/
abbrev Tag := Fin 32

/-- The number of one of the 16 remote units (R86). -/
abbrev UnitNo := Fin 16

/-- The number of one of the 64 chunks of the buffer store (R37). -/
abbrev ChunkNo := Fin 64

/-- A sequence or acknowledge number of the link, 0 to 31 (R122). -/
abbrev SeqNo := BitVec 5

/-- An epoch, 0 to 15 (R113). -/
abbrev Epoch := BitVec 4

/-- The most significant half of a word (R46). -/
def highHalf (w : Word) : Halfword := w.extractLsb' 16 16

/-- The least significant half of a word (R46). -/
def lowHalf (w : Word) : Halfword := w.extractLsb' 0 16

/-- The word made of a high and a low half (R23, R25). -/
def joinHalves (h l : Halfword) : Word := h ++ l

end Sys2Proof
end

