-- ==== Sys2Proof/Config.lean ====
section
/-! DEFINITION. What the part fixes once and for all: its identity, the fixed timer settings and the sizes of its queues.
No value of the spec is left open to an implementation, so this file holds no free value. -/

namespace Sys2Proof.Config

/-- The value of the ID register (Table 9.7). -/
def identity : Halfword := 0x6241#16

/-- The microseconds of one unit of a setting held in units of 8 µs (scope file, Section 6, Time). -/
def microsPerUnit : Nat := 8

/-- The training interval, in µs (R115). -/
def trainingInterval : Nat := 100

/-- The setting of the discovery timer, 5 ms, in µs (R116). -/
def discoveryTimeout : Nat := 5000

/-- The setting of the acknowledgement delay timer, in µs (R120). -/
def ackDelay : Nat := 20

/-- The setting of the restart timer, 1 ms, in µs (R130). -/
def restartDelay : Nat := 1000

/-- The words the staging payload can hold (R25). -/
def payloadLimit : Nat := 64

/-- The frames the replay list can hold (R122). -/
def replayListLimit : Nat := 8

/-- The episode count at which a further demand for a replay pass is link loss (R126). -/
def episodeLimit : Nat := 4

/-- The ack-owed count at which an ACK becomes owed (R120). -/
def ackCountOwed : Nat := 4

/-- The value at which the ack-owed count stops (R120). -/
def ackCountLimit : Nat := 31

/-- The most body words a received frame may have (R117, R137). -/
def bodyLimit : Nat := 20

/-- The reply timeout of every unit after power-on reset, in units of 8 µs: 10 ms (Table 6.1). -/
def defaultReplyTimeout : Halfword := 1250#16

/-- The training limit after power-on reset (R133). -/
def defaultTrainingLimit : Byte := 50#8

/-- The replay timeout after power-on reset, in units of 8 µs: 200 µs (R133). -/
def defaultReplayTimeout : Nat := 25

end Sys2Proof.Config
end

