-- ==== Sys2Proof/Syntax.lean ====
section
/-! DEFINITION. The commands of the HB624: one constructor of Instr for each row of spec/opcode_table.json, with the
operands that the row's event brings with it. -/

namespace Sys2Proof

/-- The registers of the host window (Table 9.7). -/
inductive Reg where
  | id | cmd | cmdResult | events | eventEn | resultCoalesce
  | linkState | linkCtrl | linkTiming | rxErrors | replayCount
  | stgCmd | stgAddrH | stgAddrL | stgLenLanes | stgDataH | stgDataL | stgCount
  | lastTag | resViewA | resViewB | resWords | rdDataH | rdDataL
  | attnView | attnCause
  | unitSel | unitInfo | unitClass | unitTimeout | unitCaps | unitMask
  | postedFailA | postedFailAddrH | postedFailAddrL | postedOverflow
  | protoErrors | levelsA | levelsB
  deriving DecidableEq, Repr

/-- The two link counters that a host write of any value sets to 0 (R132). -/
inductive LinkCounter where
  | rxErrors | replayCount
  deriving DecidableEq, Repr

/-- A host access to an offset: a read, or a write of a halfword (R141). -/
inductive Access where
  | read
  | write (value : Halfword)
  deriving DecidableEq, Repr

/-- A frame as the receive lane gives it (R137): the bytes taken after its start-of-frame symbol, and whether it was
broken off, that is, ended by a new start-of-frame symbol or by loss of signal and not by an end-of-frame symbol. -/
structure RawFrame where
  bytes : List Byte
  brokenOff : Bool
  deriving DecidableEq, Repr

/-- What the receive lane recognises (R127, R137): the two frame symbols, a byte, and the idle symbol between frames. -/
inductive LineSymbol where
  | startOfFrame | endOfFrame | idle
  | byte (value : Byte)
  deriving DecidableEq, Repr

/-- The header fields of a received MESSAGE frame that the receiver consults (Table 9.2). -/
structure MsgHeader where
  epoch : Epoch
  seq : SeqNo
  deriving DecidableEq, Repr

/-- The inbound messages, with the fields of Table 9.6 as message handling reads them (R139), and what is none of them. -/
inductive Inbound where
  | replyData (tag : Tag) (unit : UnitNo) (final short : Bool) (offset count : Byte) (words : List Word)
  | replyDone (tag : Tag) (unit : UnitNo)
  | replyRefuse (tag : Tag) (unit : UnitNo) (reason : Byte)
  | unitReport (unit : UnitNo) (spaces : BitVec 4) (classCode : Halfword) (creditLimit maxBlock : Byte)
  | reportEnd
  | unitGone (unit : UnitNo)
  | attention (unit : UnitNo) (number : Byte) (cause : Halfword)
  /-- a body that is no inbound message: empty, too short for its layout (a REPLY-DATA apart), or of an
  outbound or undefined code (R119, R139) -/
  | undefined
  deriving DecidableEq, Repr

/-- A received frame that has passed the CRC and form checks (R117). -/
inductive Frame where
  | train (epoch : Epoch)
  | trainAck (epoch : Epoch)
  | ack (epoch : Epoch) (number : SeqNo)
  | nak (epoch : Epoch) (number : SeqNo)
  | message (header : MsgHeader) (body : List Word)
  deriving DecidableEq, Repr

/-- The first check of R117 that a received frame fails before its epoch is looked at. -/
inductive CheckFailure where
  | crc | form
  deriving DecidableEq, Repr

/-- One step of the part (spec/opcode_table.json): a host command (its operand is bits 7 to 0 of CMD), a host access, a
reset, an arrival on the receive lane, the expiry of a timer, or a take of the transmitter. -/
inductive Instr where
  -- host commands
  | submit (operand : Byte)
  | cancel (operand : Byte)
  | popResult (operand : Byte)
  | release (operand : Byte)
  | select (operand : Byte)
  | popAttention (operand : Byte)
  | clearStaging (operand : Byte)
  | clearPosted (operand : Byte)
  | linkStart (operand : Byte)
  | linkStop (operand : Byte)
  | softReset (operand : Byte)
  | badCode (code operand : Byte)
  -- host accesses
  | stgDataHWrite (value : Halfword)
  | stgDataLWrite (value : Halfword)
  | rdDataHRead
  | rdDataLRead
  | unitMaskWrite (value : Halfword)
  | linkCtrlWrite (value : Halfword)
  | eventsWrite (value : Halfword)
  | eventEnWrite (value : Halfword)
  | resultCoalesceWrite (value : Halfword)
  | linkCounterWrite (counter : LinkCounter) (value : Halfword)
  | protoErrorsWrite (value : Halfword)
  /-- the unused offset 0x4E + 2 × place -/
  | unusedOffsetAccess (place : Fin 25) (access : Access)
  | registerWrite (register : Reg) (value : Halfword)
  -- the reset pin, and the receive lane
  /-- RESET_N is asserted (true) or released (false) -/
  | resetN (asserted : Bool)
  | lossOfSignal
  | train (epoch : Epoch)
  | trainAck (epoch : Epoch)
  | ack (epoch : Epoch) (number : SeqNo)
  | nak (epoch : Epoch) (number : SeqNo)
  | frameCheckFailure (frame : RawFrame)
  | messageOutOfSequence (header : MsgHeader) (body : List Word)
  | replyData (header : MsgHeader) (tag : Tag) (unit : UnitNo) (final short : Bool) (offset count : Byte) (words : List Word)
  | replyDone (header : MsgHeader) (tag : Tag) (unit : UnitNo)
  | replyRefuse (header : MsgHeader) (tag : Tag) (unit : UnitNo) (reason : Byte)
  | unitReport (header : MsgHeader) (unit : UnitNo) (spaces : BitVec 4) (classCode : Halfword) (creditLimit maxBlock : Byte)
  | reportEnd (header : MsgHeader)
  | unitGone (header : MsgHeader) (unit : UnitNo)
  | attention (header : MsgHeader) (unit : UnitNo) (number : Byte) (cause : Halfword)
  | undefinedMessage (header : MsgHeader) (body : List Word)
  -- timers
  | replyTimerExpiry (tag : Tag)
  | cancelTimerExpiry (tag : Tag)
  | trainingIntervalEnd
  | discoveryTimerExpiry
  | replayTimerExpiry
  | ackDelayTimerExpiry
  | restartTimerExpiry
  | holdoffTimerExpiry
  -- the transmitter
  | nakTake
  | ackTake
  | trainTake
  | replayTake
  | attentionAckTake
  | cancelTake
  | requestTake
  | transmitEnd
  deriving DecidableEq, Repr

end Sys2Proof
end

