-- ==== Sys2Proof/WellFormed.lean ====
section
/-! DEFINITION. Which terms of Instr are steps of the part: the operands lie where the row of the table puts them. -/

namespace Sys2Proof

/-- The command codes of Table 9.8: the eleven that are no BAD_CODE. -/
def definedCommandCodes : List Byte :=
  [0x01#8, 0x02#8, 0x03#8, 0x04#8, 0x05#8, 0x06#8, 0x07#8, 0x08#8, 0x09#8, 0x0A#8, 0x0F#8]

/-- The registers whose host write has a row of its own in the table, and so is no REGISTER_WRITE. -/
def Reg.writeHasOwnRow : Reg → Bool
  | .cmd | .events | .eventEn | .resultCoalesce | .linkCtrl | .rxErrors | .replayCount
  | .stgDataH | .stgDataL | .unitMask | .protoErrors => true
  | _ => false

/-- The least number of body words of an inbound message with this code, and none for an outbound or undefined code
(Table 9.4, R139). A REPLY-DATA of too few words is no undefined message but an ill-formed reply (R64, R139). -/
def inboundLeastWords (code : Byte) : Option Nat :=
  if code = 0x20#8 then some 1
  else if code = 0x21#8 then some 1
  else if code = 0x22#8 then some 1
  else if code = 0x30#8 then some 2
  else if code = 0x31#8 then some 1
  else if code = 0x32#8 then some 1
  else if code = 0x33#8 then some 2
  else none

/-- Whether a body is an inbound message of a defined code and of at least the length its layout needs (R119, R139). -/
def bodyDefined : List Word → Bool
  | [] => false
  | w :: rest =>
    match inboundLeastWords (w.extractLsb' 24 8) with
    | none => false
    | some n => decide (n ≤ rest.length + 1)

/-- Whether a term of Instr is a step that the part's environment can bring about. The length bounds are the form check's
limit of 20 body words (R117); a REPLY-DATA body is its two header words and its data words. -/
def Instr.wellFormed : Instr → Bool
  | .badCode code _ => !definedCommandCodes.contains code
  | .registerWrite r _ => !r.writeHasOwnRow
  | .messageOutOfSequence _ body => decide (body.length ≤ Config.bodyLimit)
  | .replyData _ _ _ _ _ _ _ words => decide (2 + words.length ≤ Config.bodyLimit)
  | .undefinedMessage _ body => decide (body.length ≤ Config.bodyLimit) && !bodyDefined body
  | _ => true

end Sys2Proof
end

