-- ==== Sys2Proof/Decode.lean ====
section
/-! DEFINITION. Reading what reaches the two ports: a host access (an offset, and a halfword for a write) and a received
frame (its bytes) as the row of the table it is. The layouts are those of Chapter 9. No row of spec/opcode_table.json gives bits, so
decodeTableWord reads none. -/

namespace Sys2Proof

/-- The command that a word spells by the bits of spec/opcode_table.json: no row of the table gives any. -/
def decodeTableWord (_nbits _w : Nat) : Option Instr := none

/-! ## The host port -/

/-- The registers in the order of their offsets: the register at place n has byte offset 2 × n (Table 9.7). -/
def Reg.all : List Reg :=
  [.id, .cmd, .cmdResult, .events, .eventEn, .resultCoalesce, .linkState, .linkCtrl, .linkTiming, .rxErrors,
   .replayCount, .stgCmd, .stgAddrH, .stgAddrL, .stgLenLanes, .stgDataH, .stgDataL, .stgCount, .lastTag, .resViewA,
   .resViewB, .resWords, .rdDataH, .rdDataL, .attnView, .attnCause, .unitSel, .unitInfo, .unitClass, .unitTimeout,
   .unitCaps, .unitMask, .postedFailA, .postedFailAddrH, .postedFailAddrL, .postedOverflow, .protoErrors, .levelsA,
   .levelsB]

/-- The register that address lines A1 to A6 select, none at the unused offsets 0x4E to 0x7E (R141, R143). -/
def Reg.ofIndex (n : Fin 64) : Option Reg := Reg.all[n.val]?

/-- The command of a write to CMD: the code in bits 15 to 8, the operand in bits 7 to 0 (R144, Table 9.8). -/
def decodeCommand (value : Halfword) : Instr :=
  let code : Byte := value.extractLsb' 8 8
  let operand : Byte := value.extractLsb' 0 8
  if code = 0x01#8 then .submit operand
  else if code = 0x02#8 then .cancel operand
  else if code = 0x03#8 then .popResult operand
  else if code = 0x04#8 then .release operand
  else if code = 0x05#8 then .select operand
  else if code = 0x06#8 then .popAttention operand
  else if code = 0x07#8 then .clearStaging operand
  else if code = 0x08#8 then .clearPosted operand
  else if code = 0x09#8 then .linkStart operand
  else if code = 0x0A#8 then .linkStop operand
  else if code = 0x0F#8 then .softReset operand
  else .badCode code operand

/-- The row of a host write to a register (Table 10.1). -/
def Reg.writeRow (r : Reg) (value : Halfword) : Instr :=
  match r with
  | .cmd => decodeCommand value
  | .events => .eventsWrite value
  | .eventEn => .eventEnWrite value
  | .resultCoalesce => .resultCoalesceWrite value
  | .linkCtrl => .linkCtrlWrite value
  | .rxErrors => .linkCounterWrite .rxErrors value
  | .replayCount => .linkCounterWrite .replayCount value
  | .stgDataH => .stgDataHWrite value
  | .stgDataL => .stgDataLWrite value
  | .unitMask => .unitMaskWrite value
  | .protoErrors => .protoErrorsWrite value
  | r => .registerWrite r value

/-- The row of a host write at offset 2 × n (R141, R142, R143). -/
def decodeHostWrite (n : Fin 64) (value : Halfword) : Instr :=
  match Reg.ofIndex n with
  | some r => r.writeRow value
  | none => .unusedOffsetAccess (Fin.ofNat 25 (n.val - 39)) (.write value)

/-- The row of a host read of a register: only the reads of RD_DATA_H and RD_DATA_L have one, for the read of any other
register changes nothing in the part (R141, R43, R44). -/
def Reg.readRow (r : Reg) : Option Instr :=
  match r with
  | .rdDataH => some .rdDataHRead
  | .rdDataL => some .rdDataLRead
  | _ => none

/-- The row of a host read at offset 2 × n: none where the read changes nothing in the part (R141, R143). -/
def decodeHostRead (n : Fin 64) : Option Instr :=
  match Reg.ofIndex n with
  | some r => r.readRow
  | none => some (.unusedOffsetAccess (Fin.ofNat 25 (n.val - 39)) .read)

/-! ## The CRC -/

/-- One step of the CRC register (R136). -/
def crcStep (r : BitVec 16) : BitVec 16 :=
  if r.msb then (r <<< 1) ^^^ 0x1021#16 else r <<< 1

/-- The CRC register after one byte: combined into bits 15 to 8, then eight steps (R136). -/
def crcByte (r : BitVec 16) (b : Byte) : BitVec 16 :=
  Nat.repeat crcStep 8 (r ^^^ (b ++ 0#8 : BitVec 16))

/-- The CRC of a sequence of bytes (R136). -/
def crc16 (bytes : List Byte) : BitVec 16 := bytes.foldl crcByte 0xFFFF#16

/-! ## Bytes and words -/

/-- The word whose bytes 0 to 3, most significant first, are these (Section 9.1). -/
def wordOfBytes (b0 b1 b2 b3 : Byte) : Word := (b0 ++ b1 ++ b2 ++ b3 : BitVec 32)

/-- Byte n of a word, byte 0 its bits 31 to 24 (Section 9.1). -/
def byteOfWord (w : Word) (n : Nat) : Byte := w.extractLsb' (24 - 8 * n) 8

/-- The four bytes of a word in the order they are sent (Section 9.1). -/
def bytesOfWord (w : Word) : List Byte := [byteOfWord w 0, byteOfWord w 1, byteOfWord w 2, byteOfWord w 3]

/-- The bytes of a body read as words: none where their number is not a multiple of four (R137). -/
def wordsOfBytes : List Byte → Option (List Word)
  | [] => some []
  | b0 :: b1 :: b2 :: b3 :: rest => (wordsOfBytes rest).map (wordOfBytes b0 b1 b2 b3 :: ·)
  | _ => none

/-! ## Received frames -/

/-- The frames in a run of line symbols that ends in loss of signal, the bytes of the frame in progress being given, if one
is (R137): a frame is the bytes after its start-of-frame symbol, ended whole by an end-of-frame symbol, and broken off by a
start-of-frame symbol, which begins the next frame, or by the loss of signal. -/
def boundFrames : Option (List Byte) → List LineSymbol → List RawFrame
  | none, [] => []
  | some bytes, [] => [⟨bytes, true⟩]
  | none, .startOfFrame :: rest => boundFrames (some []) rest
  | some bytes, .startOfFrame :: rest => ⟨bytes, true⟩ :: boundFrames (some []) rest
  | none, .endOfFrame :: rest => boundFrames none rest
  | some bytes, .endOfFrame :: rest => ⟨bytes, false⟩ :: boundFrames none rest
  | none, .byte _ :: rest => boundFrames none rest
  | some bytes, .byte b :: rest => boundFrames (some (bytes ++ [b])) rest
  | opened, .idle :: rest => boundFrames opened rest

/-- The CRC check of R117 (R136, R137): the frame was not broken off, holds at least 6 bytes, and its last two bytes,
most significant first, are the CRC of the others. -/
def RawFrame.crcPasses (f : RawFrame) : Bool :=
  !f.brokenOff && decide (6 ≤ f.bytes.length)
    && decide (f.bytes.drop (f.bytes.length - 2)
        = [(crc16 (f.bytes.take (f.bytes.length - 2))).extractLsb' 8 8,
           (crc16 (f.bytes.take (f.bytes.length - 2))).extractLsb' 0 8])

/-- The form check of R117 on the bytes before the CRC: a type of Table 9.3, a body of as many words as byte 3 says,
and at most 20 of them (R137). The fields are read from the positions of Table 9.2, reserved bits ignored. -/
def parseFrame : List Byte → Option Frame
  | type :: b1 :: b2 :: b3 :: rest =>
    match wordsOfBytes rest with
    | none => none
    | some body =>
      if body.length = b3.toNat ∧ b3.toNat ≤ Config.bodyLimit then
        let number : SeqNo := b1.extractLsb' 0 5
        let epoch : Epoch := b2.extractLsb' 0 4
        if type = 0x01#8 then some (.train epoch)
        else if type = 0x02#8 then some (.trainAck epoch)
        else if type = 0x03#8 then some (.ack epoch number)
        else if type = 0x04#8 then some (.nak epoch number)
        else if type = 0x08#8 then some (.message ⟨epoch, number⟩ body)
        else none
      else none
  | _ => none

/-- The checks of R117 that do not look at the epoch, in their order: the CRC, then the form. -/
def RawFrame.check (f : RawFrame) : Except CheckFailure Frame :=
  if f.crcPasses then
    match parseFrame (f.bytes.take (f.bytes.length - 2)) with
    | some frame => .ok frame
    | none => .error .form
  else .error .crc

/-! ## Received messages -/

/-- The tag of a message header word: bits 4 to 0 of byte 1 (R139). -/
def tagOfHeader (w : Word) : Tag := (w.extractLsb' 16 5).toFin

/-- The unit of a message header word: bits 3 to 0 of byte 2 (R139). -/
def unitOfHeader (w : Word) : UnitNo := (w.extractLsb' 8 4).toFin

/-- The message in the body of a delivered frame, each field from its place in Table 9.6 (R119, R139). Words beyond the
layout's last word are ignored, but in REPLY-DATA, whose data words are all the words after its second. A REPLY-DATA of one
word is ill formed under R64 (R139); DEDUCED: the count and the offset it lacks are read as 0, and R64 finds it ill formed by
its count (log entry 10). -/
def parseMessage : List Word → Inbound
  | [] => .undefined
  | w :: rest =>
    let code := byteOfWord w 0
    let arg := byteOfWord w 3
    if code = 0x20#8 then
      match rest with
      | w1 :: words =>
        .replyData (tagOfHeader w) (unitOfHeader w) (arg.getLsbD 0) (arg.getLsbD 1) (byteOfWord w1 0) (byteOfWord w1 1) words
      | [] => .replyData (tagOfHeader w) (unitOfHeader w) (arg.getLsbD 0) (arg.getLsbD 1) 0 0 []
    else if code = 0x21#8 then .replyDone (tagOfHeader w) (unitOfHeader w)
    else if code = 0x22#8 then .replyRefuse (tagOfHeader w) (unitOfHeader w) arg
    else if code = 0x30#8 then
      match rest with
      | w1 :: _ =>
        .unitReport (unitOfHeader w) (arg.extractLsb' 0 4) (highHalf w1) (byteOfWord w1 2) (byteOfWord w1 3)
      | [] => .undefined
    else if code = 0x31#8 then .reportEnd
    else if code = 0x32#8 then .unitGone (unitOfHeader w)
    else if code = 0x33#8 then
      match rest with
      | w1 :: _ => .attention (unitOfHeader w) arg (highHalf w1)
      | [] => .undefined
    else .undefined

/-- Whether a message is one of the three replies (Section 5.1). -/
def Inbound.isReply : Inbound → Bool
  | .replyData _ _ _ _ _ _ _ | .replyDone _ _ | .replyRefuse _ _ _ => true
  | .unitReport _ _ _ _ _ | .reportEnd | .unitGone _ | .attention _ _ _ | .undefined => false

/-- The row of a MESSAGE frame with this body, taken as delivered (R119). -/
def messageRow (h : MsgHeader) (body : List Word) : Instr :=
  match parseMessage body with
  | .replyData t u final short offset count words => .replyData h t u final short offset count words
  | .replyDone t u => .replyDone h t u
  | .replyRefuse t u reason => .replyRefuse h t u reason
  | .unitReport u spaces classCode limit maxBlock => .unitReport h u spaces classCode limit maxBlock
  | .reportEnd => .reportEnd h
  | .unitGone u => .unitGone h u
  | .attention u number cause => .attention h u number cause
  | .undefined => .undefinedMessage h body

/-- The row of a received frame, as far as its bytes alone decide it (R117): a frame that fails the CRC or form check is
a FRAME_CHECK_FAILURE, and any other the row of its type and message. -/
def decodeFrame (f : RawFrame) : Instr :=
  match f.check with
  | .error _ => .frameCheckFailure f
  | .ok (.train e) => .train e
  | .ok (.trainAck e) => .trainAck e
  | .ok (.ack e n) => .ack e n
  | .ok (.nak e n) => .nak e n
  | .ok (.message h body) => messageRow h body

end Sys2Proof
end

