-- ==== Sys2Proof/Machine/State.lean ====
section
/-! DEFINITION. All the state that the spec gives the HB624, block by block (Table 0.1), as plain data; the reasons a step
can stop; and the part right after power-on reset. Every default value below is the power-on value of the table or rule
cited. -/

namespace Sys2Proof.Machine

/-! ## The tag table (Chapter 1) -/

/-- The nine tag states (Table 1.2). -/
inductive TagState where
  | free | queued | waiting | sent | receiving | cancelling | posted | complete | orphaned
  deriving DecidableEq, Repr

/-- The six request kinds (R28). -/
inductive Kind where
  | read | write | readBlock | writeBlock | exchange | mark
  deriving DecidableEq, Repr

/-- The four remote spaces (Table 1.1). -/
inductive Space where
  | config | register | memory | stream
  deriving DecidableEq, Repr

/-- Why a tag entered CANCELLING (R6). -/
inductive CancelCause where
  | none | host | timeout
  deriving DecidableEq, Repr

/-- Which of a tag's two timers runs, with the setting it was last started with, in units of 8 µs (R72, R74). -/
inductive TagTimer where
  | idle
  | reply (setting : Halfword)
  | cancel (setting : Halfword)
  deriving DecidableEq, Repr

/-- The nine outcomes of a completed transaction (R8). -/
inductive TxOutcome where
  | ok | short | refused | cancelled | timeout | lost | linkLost | unitGone | protocol
  deriving DecidableEq, Repr

/-- The refusal reasons 1 to 6 of REPLY-REFUSE (Section 5.1). -/
inductive RefusalReason where
  | address | access | space | length | device | cancelled
  deriving DecidableEq, Repr

/-- What the part knows of whether the far end carried the request out (R9). -/
inductive Executed where
  | no | yes | unknown
  deriving DecidableEq, Repr

/-- A transaction record (Table 1.1). A field that the kind leaves absent holds its power-on value (R3). -/
structure TagRecord where
  state : TagState := .free
  kind : Kind := .read
  unit : UnitNo := 0
  space : Space := .config
  address : Word := 0
  length : Nat := 1
  laneMask : BitVec 4 := 0
  posted : Bool := false
  slot : Word := 0
  chunkList : List ChunkNo := []
  wordsReceived : Nat := 0
  cancelCause : CancelCause := .none
  cancelPending : Bool := false
  timer : TagTimer := .idle
  farReplyPending : Bool := false
  outcome : TxOutcome := .ok
  reason : Option RefusalReason := none
  executed : Executed := .no
  cancelRequested : Bool := false
  wordsDelivered : Nat := 0
  popped : Bool := false
  deriving DecidableEq, Repr

/-- A completion record of the result queue (R11). -/
structure CompletionRecord where
  tag : Tag
  kind : Kind
  unit : UnitNo
  outcome : TxOutcome
  reason : Option RefusalReason
  executed : Executed
  cancelRequested : Bool
  wordsDelivered : Nat
  deriving DecidableEq, Repr

/-! ## Staging (Chapter 2) and the buffer store (Chapter 3) -/

/-- The staging record (Table 2.1); its high-half latch belongs to the host port. -/
structure Staging where
  kindCode : BitVec 3 := 0
  space : Space := .config
  unit : UnitNo := 0
  posted : Bool := false
  address : Word := 0
  length : BitVec 7 := 0
  laneMask : BitVec 4 := 0
  payload : List Word := []
  deriving DecidableEq, Repr

/-- The buffer store (R37): 64 chunks of 16 words, and the free pool as one flag for each chunk number. -/
structure BufferStore where
  chunks : Vector (Vector Word 16) 64 := Vector.replicate 64 (Vector.replicate 16 0)
  free : Vector Bool 64 := Vector.replicate 64 true
  deriving DecidableEq, Repr

/-! ## The posted failure latch (Chapter 5) -/

/-- The posted failure reasons (Table 5.6). -/
inductive PostedReason where
  | address | access | space | length | device | timeout | lost | linkLost | unitGone | protocol
  deriving DecidableEq, Repr

/-- A posted failure report (R83). -/
structure PostedFailure where
  tag : Tag
  unit : UnitNo
  address : Word
  reason : PostedReason
  deriving DecidableEq, Repr

/-- The posted failure latch: empty, or full with the earliest failure, and the overflow count (R83). -/
structure PostedLatch where
  record : Option PostedFailure := none
  overflow : Nat := 0
  deriving DecidableEq, Repr

/-! ## The unit directory (Chapter 6) and the attention block (Chapter 7) -/

/-- What a queue record and a held attention have in common (R101). -/
structure Attn where
  cause : Halfword
  count : Nat
  last : Byte
  ackDue : Bool
  deriving DecidableEq, Repr

/-- A record of the attention queue (R101). -/
structure AttnRecord where
  unit : UnitNo
  attn : Attn
  deriving DecidableEq, Repr

/-- A unit record (Table 6.1). The supported spaces are a flag set, bit n for space code n. -/
structure UnitRecord where
  present : Bool := false
  classCode : Halfword := 0
  creditLimit : Nat := 0
  maxBlock : Nat := 0
  spaces : BitVec 4 := 0
  outstanding : Nat := 0
  orderList : List Tag := []
  held : Option Attn := none
  ackOwed : Option Byte := none
  replyTimeout : Halfword := Config.defaultReplyTimeout
  masked : Bool := false
  deriving DecidableEq, Repr

/-! ## The link controller (Chapter 8) -/

/-- The link states (Table 8.1). -/
inductive LinkState where
  | down | training | discovery | up | faulted
  deriving DecidableEq, Repr

/-- The last-loss reasons (Table 9.8). -/
inductive LossReason where
  | none | replayLimit | signalLost | farRestart | discoveryTimeout | hostStop | trainLimit
  deriving DecidableEq, Repr

/-- A timer: stopped, or running with the setting in µs that it was last started with. -/
abbrev Timer := Option Nat

/-- A frame of the replay list: its sequence number and its own copy of the bytes it was sent with (R122, R135). -/
structure SentFrame where
  seq : SeqNo
  bytes : List Byte
  deriving DecidableEq, Repr

/-- The send side at its starting values (R114). A replay pass in progress is the place in the replay list of its next
frame, 0 the head (R126). -/
structure SendSide where
  next : SeqNo := 0
  replayList : List SentFrame := []
  pass : Option Nat := none
  episode : Nat := 0
  replayTimer : Timer := none
  deriving DecidableEq, Repr

/-- The receive side at its starting values (R114). -/
structure ReceiveSide where
  expected : SeqNo := 0
  ackCount : Nat := 0
  ackOwed : Bool := false
  nakOwed : Bool := false
  nakMade : Bool := false
  ackDelayTimer : Timer := none
  deriving DecidableEq, Repr

/-- The link controller (R112 to R134). The transmitter is idle, or sending a frame with these bytes (R56). afterLoss says
that the link was lost and that no new training has followed, the time in which R85 has a reply of the old link be a protocol
error (DEDUCED, log entry 16). -/
structure Link where
  state : LinkState := .down
  epoch : Epoch := 0
  lastLoss : LossReason := .none
  afterLoss : Bool := false
  send : SendSide := {}
  recv : ReceiveSide := {}
  trainDue : Bool := false
  attempts : Nat := 0
  trainingInterval : Timer := none
  discoveryTimer : Timer := none
  restartTimer : Timer := none
  transmitter : Option (List Byte) := none
  rxErrors : Nat := 0
  replayCount : Nat := 0
  autoRestart : Bool := false
  trainingLimit : Byte := Config.defaultTrainingLimit
  replayTimeout : Nat := Config.defaultReplayTimeout
  deriving DecidableEq, Repr

/-! ## The event unit (Chapter 11) -/

/-- The event unit (R151 to R155). ATTN and INT_N follow from other state and are computed, not held (Machine/Flags.lean). -/
structure EventUnit where
  result : Bool := false
  link : Bool := false
  unit : Bool := false
  posted : Bool := false
  proto : Bool := false
  access : Bool := false
  enables : BitVec 7 := 0
  threshold : Nat := 1
  holdoff : Byte := 0
  holdoffTimer : Timer := none
  protoErrors : Nat := 0
  deriving DecidableEq, Repr

/-! ## The host port (Chapter 10) -/

/-- The command results (Table 9.9). -/
inductive CmdResult where
  | done | linkNotUp | badKind | noUnit | space | align | range | length | lanes | payload | postedKind | tagFull | noBuffer
  | badTag | wrongState | notPopped | empty | linkBusy | badCode
  deriving DecidableEq, Repr

/-- The result view: the valid flag, and the record most recently popped; none until the first pop, when every field
reads 0 (R12). -/
structure ResultView where
  valid : Bool := false
  shown : Option CompletionRecord := none
  deriving DecidableEq, Repr

/-- The attention view (Table 7.1). -/
structure AttnView where
  valid : Bool := false
  unit : UnitNo := 0
  count : Nat := 0
  cause : Halfword := 0
  deriving DecidableEq, Repr

/-- The host port's own state (Table 10.5), and readData, the halfword that the latest read event put on D0 to D15
(R141). DESIGN CHOICE: the spec gives readData no value before the first read; the model takes 0 (log entry 1). -/
structure HostPort where
  cmdResult : CmdResult := .done
  highLatch : Halfword := 0
  resultView : ResultView := {}
  attnView : AttnView := {}
  selected : Option Tag := none
  readPointer : Nat := 0
  readLimit : Nat := 0
  unitSel : UnitNo := 0
  readData : Halfword := 0
  deriving DecidableEq, Repr

/-! ## The whole part -/

/-- The state of the HB624, every default its power-on value, and the queue of the commands that are waiting, first in,
first out. resetAsserted is the pin RESET_N: true while it is asserted (R147). -/
structure State where
  pending : List Instr := []
  resetAsserted : Bool := false
  host : HostPort := {}
  staging : Staging := {}
  tags : Vector TagRecord 32 := Vector.replicate 32 {}
  results : List CompletionRecord := []
  lastTag : Tag := 0
  store : BufferStore := {}
  dispatchQueue : List Tag := []
  owedCancels : List Tag := []
  latch : PostedLatch := {}
  units : Vector UnitRecord 16 := Vector.replicate 16 {}
  attnQueue : List AttnRecord := []
  link : Link := {}
  events : EventUnit := {}
  deriving DecidableEq, Repr

/-- The part right after power-on reset, RESET_N released: every block at its power-on values (R147), no command
waiting. -/
def State.reset : State := {}

/-- The reasons the part stops with a fault. The spec names none: every event has an effect or is discarded, so this type
has no constructor and no command can fault (safe). -/
inductive Fault where
  deriving DecidableEq, Repr

/-- The reasons a command is refused by the model. -/
inductive Refusal where
  /-- Raised by exec alone, for a command of the table that has no meaning in the model yet; no arm raises it now (safe). -/
  | notModelled (mnemonic : String)
  deriving DecidableEq, Repr

end Sys2Proof.Machine
end

