-- ==== Sys2Proof/Machine/Ops.lean ====
section
/-! DEFINITION. The named operations over the part's state: reading and updating one record of a table, the buffer
store's places and pool, and the frame of every event (nothing happens while RESET_N is asserted). -/

namespace Sys2Proof.Machine

/-! ## Tables -/

/-- Every tag, in ascending order. -/
def allTags : List Tag := List.finRange 32

/-- Every unit, in ascending order. -/
def allUnits : List UnitNo := List.finRange 16

/-- Every chunk, in ascending order. -/
def allChunks : List ChunkNo := List.finRange 64

/-- A table with f done to every entry. -/
def mapTable {α : Type} {n : Nat} (f : α → α) (v : Vector α n) : Vector α n :=
  ⟨⟨v.toList.map f⟩, by simp⟩

/-- The record of a tag. -/
def State.tag (s : State) (t : Tag) : TagRecord := s.tags.get t

/-- The record of a unit. -/
def State.unit (s : State) (u : UnitNo) : UnitRecord := s.units.get u

/-- Update one tag's record. -/
def updTag (t : Tag) (f : TagRecord → TagRecord) (s : State) : State :=
  { s with tags := s.tags.set t (f (s.tag t)) }

/-- Update one unit's record. -/
def updUnit (u : UnitNo) (f : UnitRecord → UnitRecord) (s : State) : State :=
  { s with units := s.units.set u (f (s.unit u)) }

/-- Update every unit's record. -/
def updUnits (f : UnitRecord → UnitRecord) (s : State) : State :=
  { s with units := mapTable f s.units }

/-- Update the link controller. -/
def updLink (f : Link → Link) (s : State) : State := { s with link := f s.link }

/-- Update the send side of the link controller. -/
def updSend (f : SendSide → SendSide) (s : State) : State :=
  updLink (fun l => { l with send := f l.send }) s

/-- Update the receive side of the link controller. -/
def updRecv (f : ReceiveSide → ReceiveSide) (s : State) : State :=
  updLink (fun l => { l with recv := f l.recv }) s

/-- Update the event unit. -/
def updEvents (f : EventUnit → EventUnit) (s : State) : State := { s with events := f s.events }

/-- Update the host port. -/
def updHost (f : HostPort → HostPort) (s : State) : State := { s with host := f s.host }

/-- Update the staging record. -/
def updStaging (f : Staging → Staging) (s : State) : State := { s with staging := f s.staging }

/-- Update the buffer store. -/
def updStore (f : BufferStore → BufferStore) (s : State) : State := { s with store := f s.store }

/-- Set CMD_RESULT (R145). -/
def setResult (r : CmdResult) (s : State) : State := updHost (fun h => { h with cmdResult := r }) s

/-! ## The buffer store (R37) -/

/-- The word at a position of a chunk. -/
def readChunk (c : ChunkNo) (p : Fin 16) (b : BufferStore) : Word := (b.chunks.get c).get p

/-- Write the word at a position of a chunk. -/
def writeChunk (c : ChunkNo) (p : Fin 16) (w : Word) (b : BufferStore) : BufferStore :=
  { b with chunks := b.chunks.set c ((b.chunks.get c).set p w) }

/-- The position of word n in its chunk: n mod 16 (R37). -/
def positionOf (n : Nat) : Fin 16 := Fin.ofNat 16 n

/-- Word n of a block transaction: position n mod 16 of the chunk at entry n div 16 of its chunk list (R37). Past the end
of the list there is no place and the value is 0; no reachable state asks there. -/
def readPlace (chunkList : List ChunkNo) (n : Nat) (b : BufferStore) : Word :=
  match chunkList[n / 16]? with
  | some c => readChunk c (positionOf n) b
  | none => 0

/-- Write word n of a block transaction at its place (R37). -/
def writePlace (chunkList : List ChunkNo) (n : Nat) (w : Word) (b : BufferStore) : BufferStore :=
  match chunkList[n / 16]? with
  | some c => writeChunk c (positionOf n) w b
  | none => b

/-- Write consecutive words of a block transaction at their places, the first being word n (R32, R41). -/
def writePlaces (chunkList : List ChunkNo) : Nat → List Word → BufferStore → BufferStore
  | _, [], b => b
  | n, w :: ws, b => writePlaces chunkList (n + 1) ws (writePlace chunkList n w b)

/-- The chunks in the free pool, in ascending order (R37). -/
def freeChunks (b : BufferStore) : List ChunkNo := allChunks.filter (fun c => b.free.get c)

/-- The number of chunks in the free pool (R37, LEVELS_A). -/
def freeChunkCount (b : BufferStore) : Nat := (freeChunks b).length

/-- The free pool's flags with those of the chunks listed set to one value. -/
def markChunks (value : Bool) : List ChunkNo → Vector Bool 64 → Vector Bool 64
  | [], v => v
  | c :: cs, v => markChunks value cs (v.set c value)

/-- Take chunks out of the free pool (R38). -/
def takeChunks (cs : List ChunkNo) (b : BufferStore) : BufferStore := { b with free := markChunks false cs b.free }

/-- Put chunks back into the free pool, their contents kept (R39). -/
def putChunks (cs : List ChunkNo) (b : BufferStore) : BufferStore :=
  { b with free := markChunks true cs b.free }

/-- The chunks of a block of this many words: ceil(length / 16) (R31). -/
def chunksNeeded (length : Nat) : Nat := (length + 15) / 16

/-! ## Counts -/

/-- A count that rises by one and stops at its limit. -/
def riseTo (limit n : Nat) : Nat := if n < limit then n + 1 else n

/-- The number of tags in FREE (R20, LEVELS_A). -/
def freeTagCount (s : State) : Nat := (allTags.filter (fun t => (s.tag t).state = .free)).length

/-- The lowest-numbered tag in FREE (R3). -/
def lowestFreeTag (s : State) : Option Tag := allTags.find? (fun t => (s.tag t).state = .free)

end Sys2Proof.Machine
end

