-- ==== Sys2Proof/Machine/Flags.lean ====
section
/-! DEFINITION. The event unit (Chapter 11): the seven flags, INT_N, result coalescing and the protocol-error count; and
takeEvent, the one way an event is taken. -/

namespace Sys2Proof.Machine

/-! ## The flags -/

/-- ATTN: set while the attention queue is not empty (R151). -/
def attnFlag (s : State) : Bool := !s.attnQueue.isEmpty

/-- The seven flags in the bit positions of EVENTS (Table 11.1). -/
def eventFlags (s : State) : BitVec 7 :=
  BitVec.ofBool s.events.access ++ BitVec.ofBool s.events.proto ++ BitVec.ofBool s.events.posted
    ++ BitVec.ofBool s.events.unit ++ BitVec.ofBool s.events.link ++ BitVec.ofBool (attnFlag s)
    ++ BitVec.ofBool s.events.result

/-- The pin INT_N: true while it is asserted, that is, while a flag is set whose enable is set, and never while RESET_N is
asserted (R147, R152). -/
def intAsserted (s : State) : Bool := !s.resetAsserted && (eventFlags s &&& s.events.enables) != 0

/-- Set the ACCESS flag (R143). -/
def raiseAccess (s : State) : State := updEvents (fun e => { e with access := true }) s

/-- Set the LINK flag (R112). -/
def raiseLink (s : State) : State := updEvents (fun e => { e with link := true }) s

/-- Set the UNIT flag (R90, R94, R96). -/
def raiseUnit (s : State) : State := updEvents (fun e => { e with unit := true }) s

/-- Set the POSTED flag (R83). -/
def raisePosted (s : State) : State := updEvents (fun e => { e with posted := true }) s

/-- A protocol error reported to the event unit: the count rises, stopping at 255, and PROTO is set (R155). -/
def protocolError (s : State) : State :=
  updEvents (fun e => { e with protoErrors := riseTo 255 e.protoErrors, proto := true }) s

/-- A write of EVENTS clears each sticky flag whose bit is written as 1 (R151). -/
def clearSticky (value : Halfword) (e : EventUnit) : EventUnit :=
  { e with
    link := e.link && !value.getLsbD 2
    unit := e.unit && !value.getLsbD 3
    posted := e.posted && !value.getLsbD 4
    proto := e.proto && !value.getLsbD 5
    access := e.access && !value.getLsbD 6 }

/-! ## Result coalescing -/

/-- What the appends of one event do to the holdoff timer and RESULT, the queue having held `before` records before the
event (R154, a record is appended). An event that appends nothing changes nothing here. -/
def settleResults (before : Nat) (s : State) : State :=
  if before < s.results.length then
    updEvents (fun e =>
      { e with
        holdoffTimer :=
          if before = 0 ∧ e.holdoff ≠ 0 then some (e.holdoff.toNat * Config.microsPerUnit) else e.holdoffTimer
        result := e.result || decide (e.threshold ≤ s.results.length) }) s
  else s

/-- What an accepted POP_RESULT does to RESULT and the holdoff timer: nothing while records are left, and both are cleared
when the queue is empty (R154). -/
def settlePop (s : State) : State :=
  if s.results.isEmpty then updEvents (fun e => { e with result := false, holdoffTimer := none }) s else s

/-- The threshold stored for a written one: 0 as 1, above 32 as 32 (R153). -/
def storedThreshold (written : Nat) : Nat := if written = 0 then 1 else if 32 < written then 32 else written

/-- A write of RESULT_COALESCE (R153, R154). -/
def writeCoalesce (value : Halfword) (s : State) : State :=
  updEvents (fun e =>
    { e with
      holdoff := value.extractLsb' 8 8
      threshold := storedThreshold (value.extractLsb' 0 6).toNat
      result := e.result
        || (!s.results.isEmpty && decide (storedThreshold (value.extractLsb' 0 6).toNat ≤ s.results.length)) }) s

/-- The holdoff timer's expiry: RESULT is set if the queue holds a record; the timer does not restart (R154). A stopped
timer does not expire. -/
def holdoffExpiry (s : State) : State :=
  match s.events.holdoffTimer with
  | none => s
  | some _ => updEvents (fun e => { e with holdoffTimer := none, result := e.result || !s.results.isEmpty }) s

/-! ## Events -/

/-- Take one event: nothing happens while RESET_N is asserted (R147); otherwise its effect, and then what its appends to
the result queue, taken together, do to RESULT and the holdoff timer (R154). -/
def takeEvent (effect : State → State) (s : State) : Host.Outcome State Fault Refusal :=
  if s.resetAsserted then .next s else .next (settleResults s.results.length (effect s))

/-- Take a host read: as takeEvent, and while RESET_N is asserted the read returns 0 (R147). -/
def takeRead (effect : State → State) (s : State) : Host.Outcome State Fault Refusal :=
  if s.resetAsserted then .next (updHost (fun h => { h with readData := 0 }) s)
  else .next (settleResults s.results.length (effect s))

end Sys2Proof.Machine
end

