-- ==== Sys2Proof/Machine/Operands.lean ====
section
/-! DEFINITION. The operands of commands, and every code of Section 9.5 read from a written value or shown in one. -/

namespace Sys2Proof.Machine

/-! ## The tag operand of a command -/

/-- The tag that an operand names; none above 31 (R144). -/
def tagOperand (operand : Byte) : Option Tag :=
  if h : operand.toNat < 32 then some ⟨operand.toNat, h⟩ else none

/-- A command on the tag its operand names, refused BAD_TAG where it names none (R144, step 2). -/
def onTag (operand : Byte) (command : Tag → State → State) (s : State) : State :=
  match tagOperand operand with
  | none => setResult .badTag s
  | some t => command t s

/-! ## Codes read -/

/-- The kind of a kind code; codes 0 and 7 are undefined (Table 9.8). -/
def kindOfCode (code : BitVec 3) : Option Kind :=
  match code.toNat with
  | 1 => some .read
  | 2 => some .write
  | 3 => some .readBlock
  | 4 => some .writeBlock
  | 5 => some .exchange
  | 6 => some .mark
  | _ => none

/-- The space of a space code (Table 9.8). -/
def spaceOfCode (code : BitVec 2) : Space :=
  match code.toNat with
  | 0 => .config
  | 1 => .register
  | 2 => .memory
  | _ => .stream

/-- The refusal reason of a reason byte; only 1 to 6 are reasons (R64). -/
def reasonOfByte (b : Byte) : Option RefusalReason :=
  match b.toNat with
  | 1 => some .address
  | 2 => some .access
  | 3 => some .space
  | 4 => some .length
  | 5 => some .device
  | 6 => some .cancelled
  | _ => none

/-! ## Codes shown -/

/-- Table 9.8, kind. -/
def Kind.code : Kind → Nat
  | .read => 1
  | .write => 2
  | .readBlock => 3
  | .writeBlock => 4
  | .exchange => 5
  | .mark => 6

/-- Table 9.8, space. -/
def Space.code : Space → Nat
  | .config => 0
  | .register => 1
  | .memory => 2
  | .stream => 3

/-- Table 9.8, outcome. -/
def TxOutcome.code : TxOutcome → Nat
  | .ok => 0
  | .short => 1
  | .refused => 2
  | .cancelled => 3
  | .timeout => 4
  | .lost => 5
  | .linkLost => 6
  | .unitGone => 7
  | .protocol => 8

/-- Table 9.8, executed. -/
def Executed.code : Executed → Nat
  | .no => 0
  | .yes => 1
  | .unknown => 2

/-- Table 9.8, refusal reason. -/
def RefusalReason.code : RefusalReason → Nat
  | .address => 1
  | .access => 2
  | .space => 3
  | .length => 4
  | .device => 5
  | .cancelled => 6

/-- Table 9.8, posted failure reason. -/
def PostedReason.code : PostedReason → Nat
  | .address => 0x01
  | .access => 0x02
  | .space => 0x03
  | .length => 0x04
  | .device => 0x05
  | .timeout => 0x10
  | .lost => 0x11
  | .linkLost => 0x12
  | .unitGone => 0x13
  | .protocol => 0x14

/-- Table 9.8, link state. -/
def LinkState.code : LinkState → Nat
  | .down => 0
  | .training => 1
  | .discovery => 2
  | .up => 3
  | .faulted => 4

/-- Table 9.8, last-loss reason. -/
def LossReason.code : LossReason → Nat
  | .none => 0
  | .replayLimit => 1
  | .signalLost => 2
  | .farRestart => 3
  | .discoveryTimeout => 4
  | .hostStop => 5
  | .trainLimit => 6

/-- Table 9.9. -/
def CmdResult.code : CmdResult → Nat
  | .done => 0x00
  | .linkNotUp => 0x01
  | .badKind => 0x02
  | .noUnit => 0x03
  | .space => 0x04
  | .align => 0x05
  | .range => 0x06
  | .length => 0x07
  | .lanes => 0x08
  | .payload => 0x09
  | .postedKind => 0x0A
  | .tagFull => 0x0B
  | .noBuffer => 0x0C
  | .badTag => 0x10
  | .wrongState => 0x11
  | .notPopped => 0x12
  | .empty => 0x13
  | .linkBusy => 0x14
  | .badCode => 0x1F

end Sys2Proof.Machine
end

