-- ==== Sys2Proof/Machine/TagTable.lean ====
section
/-! DEFINITION. The tag table (Chapter 1): the act of completion, freeing and orphaning, the release of MARKs, the posted
failure reports, the teardown of one tag; and the commands CANCEL, POP_RESULT and RELEASE. -/

namespace Sys2Proof.Machine

/-! ## Leaving the lists -/

/-- A tag leaves its unit's order list, the dispatch queue and the owed-cancel list, wherever it stands in them, the
others keeping their order (R7, R47, R48, R60). -/
def leaveLists (t : Tag) (s : State) : State :=
  let s1 := updUnit (s.tag t).unit (fun r => { r with orderList := r.orderList.filter (fun x => x ≠ t) }) s
  { s1 with
    dispatchQueue := s1.dispatchQueue.filter (fun x => x ≠ t)
    owedCancels := s1.owedCancels.filter (fun x => x ≠ t) }

/-- A tag's chunks return to the free pool all together and its chunk list is empty (R39). -/
def returnChunks (t : Tag) (s : State) : State :=
  updTag t (fun r => { r with chunkList := [] }) (updStore (putChunks (s.tag t).chunkList) s)

/-- A tag enters FREE: it lets go of its chunks and its places, and every field of its record takes its power-on value
(R2). -/
def freeTag (t : Tag) (s : State) : State := updTag t (fun _ => {}) (leaveLists t (returnChunks t s))

/-- A tag enters ORPHANED: it lets go of its chunks and its places, and no timer runs and no CANCEL is owed for it (R13,
R14, R81, R82). The unit stays for matching. The fields that are not consulted in ORPHANED keep their values, but for
far-reply-pending, which is a field of COMPLETE only (Table 1.1; log entry 2). -/
def orphanTag (t : Tag) (s : State) : State :=
  updTag t (fun r => { r with state := .orphaned, timer := .idle, cancelPending := false, farReplyPending := false })
    (leaveLists t (returnChunks t s))

/-! ## Completion -/

/-- The values that a cause writes into the record of the tag it completes (R7, first); owed is far-reply-pending. -/
structure Ending where
  outcome : TxOutcome
  reason : Option RefusalReason
  executed : Executed
  delivered : Nat
  owed : Bool
  deriving DecidableEq, Repr

/-- The record of a tag that enters COMPLETE (R7, first and second). -/
def completedRecord (e : Ending) (r : TagRecord) : TagRecord :=
  { r with
    state := .complete
    outcome := e.outcome
    reason := e.reason
    executed := e.executed
    wordsDelivered := e.delivered
    farReplyPending := e.owed
    timer := .idle
    cancelPending := false
    popped := false }

/-- The completion record copied from a tag's record (R11). -/
def completionOf (t : Tag) (r : TagRecord) : CompletionRecord :=
  { tag := t, kind := r.kind, unit := r.unit, outcome := r.outcome, reason := r.reason, executed := r.executed,
    cancelRequested := r.cancelRequested, wordsDelivered := r.wordsDelivered }

/-- A non-posted tag completes (R7): its record is written, it leaves its lists, and its completion record is appended to
the tail of the result queue. The MARKs it releases are releaseMarks. -/
def completeTag (t : Tag) (e : Ending) (s : State) : State :=
  let s1 := leaveLists t (updTag t (completedRecord e) s)
  { s1 with results := s1.results ++ [completionOf t (completedRecord e (s.tag t))] }

/-- The ending of a MARK that becomes first in its unit's order list (R7, R54). -/
def markEnding : Ending := ⟨.ok, none, .yes, 0, false⟩

/-- The WAITING MARKs at the front of a unit's order list complete OK, in the order they stand (R7, R54). -/
def releaseMarks (u : UnitNo) (s : State) : State :=
  ((s.unit u).orderList.takeWhile (fun t => (s.tag t).state = .waiting)).foldl (fun s t => completeTag t markEnding s) s

/-- A tag completes, and then the MARKs it released (R7). -/
def completeAndRelease (t : Tag) (e : Ending) (s : State) : State :=
  releaseMarks (s.tag t).unit (completeTag t e s)

/-- A posted tag becomes FREE outside a teardown, and then the MARKs it released complete (R14, R54). -/
def freeAndRelease (t : Tag) (s : State) : State := releaseMarks (s.tag t).unit (freeTag t s)

/-- A posted tag becomes ORPHANED, and then the MARKs it released complete (R14, R54). -/
def orphanAndRelease (t : Tag) (s : State) : State := releaseMarks (s.tag t).unit (orphanTag t s)

/-! ## The posted failure latch -/

/-- A posted failure report for a tag: it fills the empty latch, or raises the overflow count of the full one, stopping at
255; both set POSTED (R83). -/
def reportPosted (t : Tag) (reason : PostedReason) (s : State) : State :=
  raisePosted
    { s with
      latch :=
        match s.latch.record with
        | none =>
          { s.latch with record := some ⟨t, (s.tag t).unit, (s.tag t).address, reason⟩ }
        | some _ => { s.latch with overflow := riseTo 255 s.latch.overflow } }

/-! ## Teardown -/

/-- Whether a tag in this state has not been sent: a teardown then knows that it was not executed (R9). -/
def TagState.unsent : TagState → Bool
  | .queued | .waiting => true
  | _ => false

/-- The settlement of one tag at link loss or at UNIT-GONE (the tables of R17 and R18). No MARK is released here. -/
def settleTag (outcome : TxOutcome) (reason : PostedReason) (t : Tag) (s : State) : State :=
  let r := s.tag t
  match r.state with
  | .free => s
  | .orphaned => freeTag t s
  | .complete => updTag t (fun r => { r with farReplyPending := false }) s
  | .queued | .waiting | .sent | .receiving | .cancelling | .posted =>
    if r.posted then freeTag t (reportPosted t reason s)
    else completeTag t ⟨outcome, none, if r.state.unsent then .no else .unknown, 0, false⟩ s

/-- The settlement of every tag, in ascending tag number, at link loss (R17). -/
def settleAllTags (s : State) : State :=
  allTags.foldl (fun s t => settleTag .linkLost .linkLost t s) s

/-- The settlement of every tag of one unit, in ascending tag number, at UNIT-GONE (R18). -/
def settleUnitTags (u : UnitNo) (s : State) : State :=
  allTags.foldl (fun s t => if (s.tag t).unit = u then settleTag .unitGone .unitGone t s else s) s

/-! ## CANCEL -/

/-- A tag enters CANCELLING and joins the tail of the owed-cancel list (R6, R60). -/
def enterCancelling (cause : CancelCause) (t : Tag) (s : State) : State :=
  let s1 := updTag t (fun r =>
    { r with
      state := .cancelling
      cancelCause := cause
      cancelPending := true
      timer := .idle
      cancelRequested := r.cancelRequested || decide (cause = .host) }) s
  { s1 with owedCancels := s1.owedCancels ++ [t] }

/-- CANCEL t by the state of the tag (R16, Table 1.6). -/
def cancelTag (t : Tag) (s : State) : State :=
  if (s.tag t).posted then setResult .wrongState s
  else
    match (s.tag t).state with
    | .queued | .waiting =>
      setResult .done
        (completeAndRelease t ⟨.cancelled, none, .no, 0, false⟩ (updTag t (fun r => { r with cancelRequested := true }) s))
    | .sent | .receiving => setResult .done (enterCancelling .host t s)
    | .cancelling => setResult .done (updTag t (fun r => { r with cancelRequested := true }) s)
    | .free | .posted | .complete | .orphaned => setResult .wrongState s

/-- The command CANCEL (R16, R144). -/
def cmdCancel (operand : Byte) (s : State) : State := onTag operand cancelTag s

/-! ## POP_RESULT -/

/-- The command POP_RESULT (R12); its operand is not consulted. -/
def cmdPopResult (_operand : Byte) (s : State) : State :=
  match s.results with
  | [] => setResult .empty (updHost (fun h => { h with resultView := { h.resultView with valid := false } }) s)
  | c :: rest =>
    setResult .done (settlePop
      (updTag c.tag (fun r => { r with popped := true })
        (updHost (fun h => { h with resultView := ⟨true, some c⟩ }) { s with results := rest })))

/-! ## RELEASE -/

/-- If the tag is the one selected for data reads, the selection is cleared (R13, R45). -/
def dropSelection (t : Tag) (s : State) : State :=
  if s.host.selected = some t then updHost (fun h => { h with selected := none, readPointer := 0, readLimit := 0 }) s
  else s

/-- RELEASE t by the state of the tag (R13). -/
def releaseTag (t : Tag) (s : State) : State :=
  if (s.tag t).state = .complete then
    if (s.tag t).popped then
      setResult .done (dropSelection t (if (s.tag t).farReplyPending then orphanTag t s else freeTag t s))
    else setResult .notPopped s
  else setResult .wrongState s

/-- The command RELEASE (R13, R144). -/
def cmdRelease (operand : Byte) (s : State) : State := onTag operand releaseTag s

/-! ## The meanings -/

/-- CANCEL (R16). -/
def execCancel (operand : Byte) (s : State) : Host.Outcome State Fault Refusal := takeEvent (cmdCancel operand) s

/-- POP_RESULT (R12). -/
def execPopResult (operand : Byte) (s : State) : Host.Outcome State Fault Refusal := takeEvent (cmdPopResult operand) s

/-- RELEASE (R13). -/
def execRelease (operand : Byte) (s : State) : Host.Outcome State Fault Refusal := takeEvent (cmdRelease operand) s

end Sys2Proof.Machine
end

