-- ==== Sys2Proof/Machine/Submission.lean ====
section
/-! DEFINITION. The staging record, the checks of SUBMIT and its acceptance (Chapter 2); CLEAR_STAGING and the payload
ports. -/

namespace Sys2Proof.Machine

/-! ## What each kind uses (Table 2.2) -/

/-- Whether a kind is a block kind. -/
def Kind.isBlock : Kind → Bool
  | .readBlock | .writeBlock => true
  | _ => false

/-- Whether a kind uses the lane mask, and so carries one payload word in the single-word slot. -/
def Kind.usesLanes : Kind → Bool
  | .write | .exchange => true
  | _ => false

/-- Whether a kind may be submitted with the posted flag. -/
def Kind.mayBePosted : Kind → Bool
  | .write | .writeBlock => true
  | _ => false

/-- The payload words that a kind requires for a staged length. -/
def Kind.payloadRequired (k : Kind) (length : Nat) : Nat :=
  match k with
  | .write | .exchange => 1
  | .writeBlock => length
  | .read | .readBlock | .mark => 0

/-- The chunks that a kind reserves for a staged length (R31). -/
def Kind.chunksReserved (k : Kind) (length : Nat) : Nat := if k.isBlock then chunksNeeded length else 0

/-! ## The checks (Table 2.3) -/

/-- The checks of Table 2.3 from the third on, for a staged kind: the refusal of the first that fails, DONE where all
pass. -/
def checkKind (k : Kind) (s : State) : CmdResult :=
  let g := s.staging
  let u := s.unit g.unit
  let length := g.length.toNat
  if u.present = false then .noUnit
  else if k ≠ .mark ∧ u.spaces.getLsbD g.space.code = false then .space
  else if k ≠ .mark ∧ g.address.toNat % 4 ≠ 0 then .align
  else if k.isBlock ∧ g.space = .memory ∧ 2 ^ 32 < g.address.toNat + 4 * length then .range
  else if k.isBlock ∧ (length = 0 ∨ 64 < length ∨ u.maxBlock < length) then .length
  else if k.usesLanes ∧ g.laneMask = 0 then .lanes
  else if g.payload.length ≠ k.payloadRequired length then .payload
  else if g.posted ∧ k.mayBePosted = false then .postedKind
  else if lowestFreeTag s = none then .tagFull
  else if freeChunkCount s.store < k.chunksReserved length then .noBuffer
  else .done

/-- The checks of SUBMIT in the order of Table 2.3 (R29, R30): the refusal of the first that fails, DONE where all
pass. -/
def submitCheck (s : State) : CmdResult :=
  if s.link.state ≠ .up then .linkNotUp
  else
    match kindOfCode s.staging.kindCode with
    | none => .badKind
    | some k => checkKind k s

/-! ## Acceptance -/

/-- The record of a new tag, in QUEUED, filled from the staging record as the kind takes its fields (R3, R28, Table
2.2). -/
def stagedRecord (k : Kind) (chunks : List ChunkNo) (g : Staging) : TagRecord :=
  { state := .queued
    kind := k
    unit := g.unit
    space := if k = .mark then .config else g.space
    address := if k = .mark then 0 else g.address
    length := if k.isBlock then g.length.toNat else 1
    laneMask := if k.usesLanes then g.laneMask else 0
    posted := g.posted
    slot := if k.usesLanes then g.payload.headD 0 else 0
    chunkList := chunks }

/-- The store after a block request has reserved its chunks and a WRITE BLOCK has copied its payload to their places
(R32, R38, R40). -/
def reserveStore (k : Kind) (chunks : List ChunkNo) (payload : List Word) (b : BufferStore) : BufferStore :=
  if k = .writeBlock then writePlaces chunks 0 payload (takeChunks chunks b) else takeChunks chunks b

/-- A new tag's first state and its places in the lists (R34). -/
def placeTag (t : Tag) (k : Kind) (s : State) : State :=
  let u := (s.tag t).unit
  if k = .mark then
    if (s.unit u).orderList = [] then completeTag t markEnding s
    else
      updUnit u (fun r => { r with orderList := r.orderList ++ [t] }) (updTag t (fun r => { r with state := .waiting }) s)
  else
    let s1 := updUnit u (fun r => { r with orderList := r.orderList ++ [t] }) s
    { s1 with dispatchQueue := s1.dispatchQueue ++ [t] }

/-- The acceptance of SUBMIT for the tag it assigns (R3, R31 to R34): chunks, record, payload, lists, LAST_TAG. -/
def acceptSubmit (t : Tag) (k : Kind) (s : State) : State :=
  let chunks := (freeChunks s.store).take (k.chunksReserved s.staging.length.toNat)
  let filled :=
    updTag t (fun _ => stagedRecord k chunks s.staging)
      (updStore (reserveStore k chunks s.staging.payload) s)
  updStaging (fun g => { g with payload := [] }) { placeTag t k filled with lastTag := t }

/-- The command SUBMIT (R29); its operand is not consulted. A refusal changes nothing but CMD_RESULT. -/
def cmdSubmit (_operand : Byte) (s : State) : State :=
  match submitCheck s, kindOfCode s.staging.kindCode, lowestFreeTag s with
  | .done, some k, some t => setResult .done (acceptSubmit t k s)
  | r, _, _ => setResult r s

/-! ## The staging payload -/

/-- The command CLEAR_STAGING (R27); its operand is not consulted. -/
def cmdClearStaging (_operand : Byte) (s : State) : State :=
  setResult .done
    (updHost (fun h => { h with highLatch := 0 }) (updStaging (fun g => { g with payload := [] }) s))

/-- A host write to STG_DATA_H (R24). -/
def writeStgDataH (value : Halfword) (s : State) : State := updHost (fun h => { h with highLatch := value }) s

/-- A host write to STG_DATA_L: appends a word, or is ignored with ACCESS at 64 words (R25). -/
def writeStgDataL (value : Halfword) (s : State) : State :=
  if s.staging.payload.length < Config.payloadLimit then
    updStaging (fun g => { g with payload := g.payload ++ [joinHalves s.host.highLatch value] }) s
  else raiseAccess s

/-! ## The meanings -/

/-- SUBMIT (R29 to R35). -/
def execSubmit (operand : Byte) (s : State) : Host.Outcome State Fault Refusal := takeEvent (cmdSubmit operand) s

/-- CLEAR_STAGING (R27). -/
def execClearStaging (operand : Byte) (s : State) : Host.Outcome State Fault Refusal :=
  takeEvent (cmdClearStaging operand) s

/-- A host write to STG_DATA_H (R24). -/
def execStgDataHWrite (value : Halfword) (s : State) : Host.Outcome State Fault Refusal := takeEvent (writeStgDataH value) s

/-- A host write to STG_DATA_L (R25). -/
def execStgDataLWrite (value : Halfword) (s : State) : Host.Outcome State Fault Refusal := takeEvent (writeStgDataL value) s

end Sys2Proof.Machine
end

