-- ==== Sys2Proof/Machine/ResultData.lean ====
section
/-! DEFINITION. SELECT and the result data ports (Section 3.3). -/

namespace Sys2Proof.Machine

/-- SELECT t by the state of the tag (R42). -/
def selectTag (t : Tag) (s : State) : State :=
  if (s.tag t).state = .complete then
    setResult .done
      (updHost (fun h => { h with selected := some t, readPointer := 0, readLimit := (s.tag t).wordsDelivered }) s)
  else setResult .wrongState s

/-- The command SELECT (R42, R144). -/
def cmdSelect (operand : Byte) (s : State) : State := onTag operand selectTag s

/-- Word n of a tag's data: at its place in the chunks for a block kind, else the single-word slot (R43). -/
def dataWord (r : TagRecord) (n : Nat) (b : BufferStore) : Word :=
  if r.kind.isBlock then readPlace r.chunkList n b else r.slot

/-- The word at the read pointer of the selected tag; none with no selection, or with the pointer at the limit (R43). -/
def portWord (s : State) : Option Word :=
  match s.host.selected with
  | none => none
  | some t =>
    if s.host.readPointer < s.host.readLimit then some (dataWord (s.tag t) s.host.readPointer s.store) else none

/-- A host read of RD_DATA_H (R43). -/
def readRdDataH (s : State) : State :=
  match portWord s with
  | some w => updHost (fun h => { h with readData := highHalf w }) s
  | none => raiseAccess (updHost (fun h => { h with readData := 0 }) s)

/-- A host read of RD_DATA_L: it advances the read pointer (R44). -/
def readRdDataL (s : State) : State :=
  match portWord s with
  | some w => updHost (fun h => { h with readData := lowHalf w, readPointer := h.readPointer + 1 }) s
  | none => raiseAccess (updHost (fun h => { h with readData := 0 }) s)

/-- SELECT (R42). -/
def execSelect (operand : Byte) (s : State) : Host.Outcome State Fault Refusal := takeEvent (cmdSelect operand) s

/-- A host read of RD_DATA_H (R43). -/
def execRdDataHRead (s : State) : Host.Outcome State Fault Refusal := takeRead readRdDataH s

/-- A host read of RD_DATA_L (R44). -/
def execRdDataLRead (s : State) : Host.Outcome State Fault Refusal := takeRead readRdDataL s

end Sys2Proof.Machine
end

