-- ==== Sys2Proof/Machine/Frames.lean ====
section
/-! DEFINITION. The frames the part sends (Sections 9.2 and 9.3): their bytes, the bodies of the three outbound messages,
and the two ways a frame goes out, as a control frame and as a message frame on the replay list. -/

namespace Sys2Proof.Machine

/-- The bytes of a frame between its two symbols: header, body and CRC (R135, R136). -/
def frameBytes (type : Byte) (number : SeqNo) (epoch : Epoch) (body : List Word) : List Byte :=
  let content : List Byte :=
    [type, (0#3 ++ number : BitVec 8), (0#4 ++ epoch : BitVec 8), BitVec.ofNat 8 body.length] ++ body.flatMap bytesOfWord
  content ++ [(crc16 content).extractLsb' 8 8, (crc16 content).extractLsb' 0 8]

/-- The TRAIN frame of an epoch (R135). -/
def trainFrame (epoch : Epoch) : List Byte := frameBytes 0x01#8 0 epoch []

/-- The ACK frame carrying a number (R135). -/
def ackFrame (epoch : Epoch) (number : SeqNo) : List Byte := frameBytes 0x03#8 number epoch []

/-- The NAK frame carrying a number (R135). -/
def nakFrame (epoch : Epoch) (number : SeqNo) : List Byte := frameBytes 0x04#8 number epoch []

/-- The MESSAGE frame with a sequence number (R135). -/
def messageFrame (epoch : Epoch) (number : SeqNo) (body : List Word) : List Byte := frameBytes 0x08#8 number epoch body

/-- A tag in the byte of a message that carries it. -/
def tagByte (t : Tag) : Byte := BitVec.ofNat 8 t.val

/-- A unit in the byte of a message that carries it. -/
def unitByte (u : UnitNo) : Byte := BitVec.ofNat 8 u.val

/-- The payload words of a tag's REQUEST: none for a read kind, the single-word slot for WRITE and EXCHANGE, and words 0
to length − 1 from their places for WRITE BLOCK (R40, R61). -/
def requestPayload (r : TagRecord) (b : BufferStore) : List Word :=
  match r.kind with
  | .write | .exchange => [r.slot]
  | .writeBlock => (List.range r.length).map (fun n => readPlace r.chunkList n b)
  | .read | .readBlock | .mark => []

/-- The body of a tag's REQUEST (R138, Table 9.5). -/
def requestBody (t : Tag) (r : TagRecord) (b : BufferStore) : List Word :=
  [wordOfBytes 0x10#8 (tagByte t) (unitByte r.unit) (BitVec.ofNat 8 r.kind.code),
   wordOfBytes (BitVec.ofNat 8 r.space.code) (0#4 ++ r.laneMask : BitVec 8) (BitVec.ofNat 8 r.length) 0#8,
   r.address] ++ requestPayload r b

/-- The body of a CANCEL (R138, Table 9.5). -/
def cancelBody (t : Tag) (u : UnitNo) : List Word := [wordOfBytes 0x11#8 (tagByte t) (unitByte u) 0#8]

/-- The body of an ATTENTION-ACK (R138, Table 9.5). -/
def attentionAckBody (u : UnitNo) (number : Byte) : List Word := [wordOfBytes 0x12#8 0#8 (unitByte u) number]

/-- The transmitter starts sending these bytes (R56). -/
def transmit (bytes : List Byte) (s : State) : State := updLink (fun l => { l with transmitter := some bytes }) s

/-- The replay timer's setting in µs, as LINK_TIMING stands (R125). -/
def replaySetting (s : State) : Nat := s.link.replayTimeout * Config.microsPerUnit

/-- A new message frame goes out: formed with the next send number and the current epoch, its copy at the tail of the
replay list, the number risen, and the replay timer started if the list was empty (R122, R125). -/
def sendMessage (body : List Word) (s : State) : State :=
  let bytes := messageFrame s.link.epoch s.link.send.next body
  transmit bytes
    (updSend (fun d =>
      { d with
        next := d.next + 1
        replayList := d.replayList ++ [⟨d.next, bytes⟩]
        replayTimer := if d.replayList = [] then some (replaySetting s) else d.replayTimer }) s)

end Sys2Proof.Machine
end

