-- ==== Sys2Proof/Machine/LinkControl.lean ====
section
/-! DEFINITION. The link controller (Chapter 8): its states, training, link loss with every block's teardown, the replay
list and its passes, the link timers; and the commands LINK_START and LINK_STOP. -/

namespace Sys2Proof.Machine

/-! ## Changes of link state -/

/-- The link state changes: LINK is set (R112), and on a change to DOWN or FAULTED a frame in transmission is broken off
(R56). -/
def changeState (target : LinkState) (s : State) : State :=
  raiseLink (updLink (fun l =>
    { l with
      state := target
      transmitter := if target = .down ∨ target = .faulted then none else l.transmitter }) s)

/-- The entry to TRAINING (R113, R114). -/
def enterTraining (s : State) : State :=
  changeState .training (updLink (fun l =>
    { l with
      epoch := l.epoch + 1
      send := {}
      recv := {}
      attempts := 0
      trainDue := true
      afterLoss := false
      restartTimer := none }) s)

/-- The end of training by a TRAIN-ACK with the current epoch (R116). -/
def enterDiscovery (s : State) : State :=
  changeState .discovery (updLink (fun l =>
    { l with trainingInterval := none, trainDue := false, discoveryTimer := some Config.discoveryTimeout }) s)

/-! ## Link loss -/

/-- A unit record made ABSENT: the learned fields and the outstanding count at 0, the order list empty, no ack owed; the
held attention and the host-owned fields as they stand (Table 6.1). -/
def absentUnit (r : UnitRecord) : UnitRecord :=
  { r with
    present := false
    classCode := 0
    creditLimit := 0
    maxBlock := 0
    spaces := 0
    outstanding := 0
    orderList := []
    ackOwed := none }

/-- An attention with ack due no (R109, R110). -/
def Attn.withoutAck (a : Attn) : Attn := { a with ackDue := false }

/-- A unit record at link loss: ABSENT, its held attention kept with ack due no (R96, R110). -/
def lostUnit (r : UnitRecord) : UnitRecord := { absentUnit r with held := r.held.map Attn.withoutAck }

/-- Whether any unit is PRESENT. -/
def anyPresent (s : State) : Bool := allUnits.any (fun u => (s.unit u).present)

/-- The unit directory's and the attention block's part of link loss: every unit ABSENT, UNIT set when at least one was
PRESENT, every attention record with ack due no (R96, R110). -/
def loseUnits (s : State) : State :=
  let s1 := updUnits lostUnit (if anyPresent s then raiseUnit s else s)
  { s1 with attnQueue := s1.attnQueue.map (fun r => { r with attn := r.attn.withoutAck }) }

/-- The tag table's, the dispatcher's and the reply matcher's part of link loss: every tag settled in ascending order, and
the dispatch queue and the owed-cancel list left empty (R17, R62, R85). -/
def loseTags (s : State) : State := { settleAllTags s with dispatchQueue := [], owedCancels := [] }

/-- The restart timer after link loss: started on entry to FAULTED with auto-restart enabled, else stopped (R129, R130). -/
def restartOnEntry (target : LinkState) (autoRestart : Bool) : Timer :=
  if target = .faulted ∧ autoRestart = true then some Config.restartDelay else none

/-- The state entered at link loss: DOWN for HOST_STOP, FAULTED for the others (R129). -/
def lossTarget (reason : LossReason) : LinkState := if reason = .hostStop then .down else .faulted

/-- Link loss (R129): every block settles its state, and the link controller clears its two sides, stops the discovery
timer, takes the reason and enters FAULTED or DOWN. -/
def linkLoss (reason : LossReason) (s : State) : State :=
  changeState (lossTarget reason) (updLink (fun l =>
    { l with
      send := {}
      recv := {}
      discoveryTimer := none
      lastLoss := reason
      afterLoss := true
      restartTimer := restartOnEntry (lossTarget reason) l.autoRestart }) (loseUnits (loseTags s)))

/-- Link loss where there is an established link to lose: in DISCOVERY and UP alone (R129). -/
def loseEstablished (reason : LossReason) (s : State) : State :=
  match s.link.state with
  | .discovery | .up => linkLoss reason s
  | .down | .training | .faulted => s

/-! ## The replay list -/

/-- The oldest unacknowledged number: that of the replay list's head, or the next send number (R122). -/
def SendSide.oldest (d : SendSide) : SeqNo :=
  match d.replayList with
  | [] => d.next
  | f :: _ => f.seq

/-- Whether an acknowledge number lies in the window, from the oldest unacknowledged number up to and including the next
send number (R123). -/
def SendSide.inWindow (d : SendSide) (n : SeqNo) : Bool :=
  decide ((n - d.oldest).toNat ≤ (d.next - d.oldest).toNat)

/-- The send side after the frames before n are acknowledged (R123): with none removed nothing changes; else they leave the
head of the list, the episode count is 0, the replay timer restarts or stops, and a pass in progress goes on from its next
frame or from the new head, or ends with nothing left. -/
def SendSide.acknowledge (setting : Nat) (n : SeqNo) (d : SendSide) : SendSide :=
  let removed := (n - d.oldest).toNat
  if removed = 0 then d
  else
    let left := d.replayList.drop removed
    { d with
      replayList := left
      episode := 0
      replayTimer := if left = [] then none else some setting
      pass := if left = [] then none else d.pass.map (fun i => i - removed) }

/-- A demand for a replay pass from the head of the list (R126): the pass starts or restarts, or the link is lost at the
episode limit. -/
def demandPass (s : State) : State :=
  if s.link.send.episode < Config.episodeLimit then
    updLink (fun l => { l with replayCount := riseTo 65535 l.replayCount })
      (updSend (fun d => { d with pass := some 0, episode := d.episode + 1, replayTimer := some (replaySetting s) }) s)
  else loseEstablished .replayLimit s

/-- An ACK frame taken in DISCOVERY or UP (R123). -/
def takeAck (n : SeqNo) (s : State) : State :=
  if s.link.send.inWindow n then updSend (SendSide.acknowledge (replaySetting s) n) s else protocolError s

/-- A NAK frame taken in DISCOVERY or UP (R124). After the acknowledgement the frame numbered n is the list's head, so a
pass in progress goes on from the head, and a new one is demanded from it. -/
def takeNak (n : SeqNo) (s : State) : State :=
  if s.link.send.inWindow n then
    let s1 := updSend (SendSide.acknowledge (replaySetting s) n) s
    if n = s.link.send.next then s1
    else if s1.link.send.pass.isSome then updSend (fun d => { d with pass := some 0 }) s1
    else demandPass s1
  else protocolError s

/-! ## Timers; a stopped timer does not expire -/

/-- The end of the training interval (R115). -/
def endTrainingInterval (s : State) : State :=
  match s.link.trainingInterval with
  | none => s
  | some _ =>
    let s1 := updLink (fun l => { l with trainingInterval := none }) s
    if s.link.state = .training then
      if s.link.trainingLimit = 0 ∨ s.link.attempts < s.link.trainingLimit.toNat then
        updLink (fun l => { l with trainDue := true }) s1
      else changeState .down (updLink (fun l => { l with lastLoss := .trainLimit, trainDue := false }) s1)
    else s1

/-- The discovery timer's expiry: link loss in DISCOVERY (R116). -/
def expireDiscoveryTimer (s : State) : State :=
  match s.link.discoveryTimer with
  | none => s
  | some _ =>
    let s1 := updLink (fun l => { l with discoveryTimer := none }) s
    if s.link.state = .discovery then linkLoss .discoveryTimeout s1 else s1

/-- The replay timer's expiry: a pass of the whole list is demanded (R125). -/
def expireReplayTimer (s : State) : State :=
  match s.link.send.replayTimer with
  | none => s
  | some _ => demandPass (updSend (fun d => { d with replayTimer := none }) s)

/-- The acknowledgement delay timer's expiry: an ACK becomes owed (R120). -/
def expireAckDelay (s : State) : State :=
  match s.link.recv.ackDelayTimer with
  | none => s
  | some _ => updRecv (fun v => { v with ackDelayTimer := none, ackOwed := true }) s

/-- The restart timer's expiry: with the link still in FAULTED it enters TRAINING (R130). -/
def expireRestartTimer (s : State) : State :=
  match s.link.restartTimer with
  | none => s
  | some _ =>
    let s1 := updLink (fun l => { l with restartTimer := none }) s
    if s.link.state = .faulted then enterTraining s1 else s1

/-! ## LINK_START, LINK_STOP and the settings -/

/-- The command LINK_START (R114); its operand is not consulted. -/
def cmdLinkStart (_operand : Byte) (s : State) : State :=
  match s.link.state with
  | .down | .faulted => setResult .done (enterTraining s)
  | .training | .discovery | .up => setResult .linkBusy s

/-- The command LINK_STOP (R131); its operand is not consulted. -/
def cmdLinkStop (_operand : Byte) (s : State) : State :=
  match s.link.state with
  | .discovery | .up => setResult .done (linkLoss .hostStop s)
  | .training =>
    setResult .done (changeState .down (updLink (fun l => { l with trainingInterval := none, trainDue := false }) s))
  | .faulted => setResult .done (changeState .down (updLink (fun l => { l with restartTimer := none }) s))
  | .down => setResult .done s

/-- A host write of LINK_CTRL: the two settings are stored; the restart timer starts where auto-restart becomes enabled in
FAULTED, and stops where it is disabled (R130, R133). -/
def writeLinkCtrl (value : Halfword) (s : State) : State :=
  let enabled := value.getLsbD 15
  updLink (fun l =>
    { l with
      autoRestart := enabled
      trainingLimit := value.extractLsb' 0 8
      restartTimer :=
        if enabled = false then none
        else if l.autoRestart = false ∧ l.state = .faulted then some Config.restartDelay
        else l.restartTimer }) s

/-- The replay timeout stored for a written one: below 2 as 2, above 128 as 128 (R133). -/
def storedReplayTimeout (written : Nat) : Nat := if written < 2 then 2 else if 128 < written then 128 else written

/-- A host write of LINK_TIMING (R133). -/
def writeLinkTiming (value : Halfword) (s : State) : State :=
  updLink (fun l => { l with replayTimeout := storedReplayTimeout (value.extractLsb' 0 8).toNat }) s

/-- A host write to a link counter sets it to 0, whatever is written (R132). -/
def clearLinkCounter (counter : LinkCounter) (s : State) : State :=
  match counter with
  | .rxErrors => updLink (fun l => { l with rxErrors := 0 }) s
  | .replayCount => updLink (fun l => { l with replayCount := 0 }) s

/-! ## The meanings -/

/-- LINK_START (R114). -/
def execLinkStart (operand : Byte) (s : State) : Host.Outcome State Fault Refusal := takeEvent (cmdLinkStart operand) s

/-- LINK_STOP (R131). -/
def execLinkStop (operand : Byte) (s : State) : Host.Outcome State Fault Refusal := takeEvent (cmdLinkStop operand) s

/-- A host write of LINK_CTRL (R130, R133). -/
def execLinkCtrlWrite (value : Halfword) (s : State) : Host.Outcome State Fault Refusal := takeEvent (writeLinkCtrl value) s

/-- A host write to RX_ERRORS or REPLAY_COUNT (R132); the written value is not stored. -/
def execLinkCounterWrite (counter : LinkCounter) (_value : Halfword) (s : State) : Host.Outcome State Fault Refusal :=
  takeEvent (clearLinkCounter counter) s

/-- Loss of signal on the receive lane (R127). -/
def execLossOfSignal (s : State) : Host.Outcome State Fault Refusal := takeEvent (loseEstablished .signalLost) s

/-- The end of the training interval (R115). -/
def execTrainingIntervalEnd (s : State) : Host.Outcome State Fault Refusal := takeEvent endTrainingInterval s

/-- The discovery timer's expiry (R116). -/
def execDiscoveryTimerExpiry (s : State) : Host.Outcome State Fault Refusal := takeEvent expireDiscoveryTimer s

/-- The replay timer's expiry (R125). -/
def execReplayTimerExpiry (s : State) : Host.Outcome State Fault Refusal := takeEvent expireReplayTimer s

/-- The acknowledgement delay timer's expiry (R120). -/
def execAckDelayTimerExpiry (s : State) : Host.Outcome State Fault Refusal := takeEvent expireAckDelay s

/-- The restart timer's expiry (R130). -/
def execRestartTimerExpiry (s : State) : Host.Outcome State Fault Refusal := takeEvent expireRestartTimer s

end Sys2Proof.Machine
end

