-- ==== Sys2Proof/Machine/Dispatcher.lean ====
section
/-! DEFINITION. Dispatch and the transmitter (Chapter 4): eligibility, the dispatcher's choice, the arbiter's order, and
what the take of each item does. -/

namespace Sys2Proof.Machine

/-! ## Eligibility -/

/-- Whether a tag in this state has been sent and is not finished (R49, R50). -/
def TagState.inFlight : TagState → Bool
  | .sent | .receiving | .cancelling | .posted => true
  | _ => false

/-- Whether a tag is eligible to be sent (R50). -/
def eligible (s : State) (t : Tag) : Bool :=
  let u := s.unit (s.tag t).unit
  decide ((s.tag t).state = .queued)
    && (u.orderList.takeWhile (fun x => x ≠ t)).all (fun x => (s.tag x).state.inFlight)
    && decide (u.outstanding < u.creditLimit)
    && decide (s.link.state = .up)

/-- The tag the dispatcher offers: the eligible one that stands earliest in the dispatch queue (R51). -/
def dispatchChoice (s : State) : Option Tag := s.dispatchQueue.find? (eligible s)

/-! ## The arbiter -/

/-- The items of Table 4.2. -/
inductive TxItem where
  | nak | ack | train | replay | attentionAck | cancel | request
  deriving DecidableEq, Repr

/-- The items in the arbiter's order (R57). -/
def arbiterOrder : List TxItem := [.nak, .ack, .train, .replay, .attentionAck, .cancel, .request]

/-- Whether new message frames are admitted (R58). -/
def admitted (s : State) : Bool :=
  decide (s.link.state = .up) && decide (s.link.send.replayList.length < Config.replayListLimit)
    && s.link.send.pass.isNone

/-- The lowest-numbered unit whose ack owed is set, and the number it holds (R59). -/
def ackOwedUnit (s : State) : Option (UnitNo × Byte) :=
  allUnits.findSome? (fun u => (s.unit u).ackOwed.map (fun n => (u, n)))

/-- The next frame of the replay pass in progress (R126). -/
def replayFrame (d : SendSide) : Option SentFrame :=
  match d.pass with
  | none => none
  | some i => d.replayList[i]?

/-- Whether an item of Table 4.2 applies. -/
def applies (s : State) : TxItem → Bool
  | .nak => s.link.recv.nakOwed
  | .ack => s.link.recv.ackOwed && (decide (s.link.state = .discovery) || decide (s.link.state = .up))
  | .train => decide (s.link.state = .training) && s.link.trainDue
  | .replay => (replayFrame s.link.send).isSome
  | .attentionAck => admitted s && (ackOwedUnit s).isSome
  | .cancel => admitted s && !s.owedCancels.isEmpty
  | .request => admitted s && (dispatchChoice s).isSome

/-- The item the arbiter takes: the first that applies, while the transmitter is idle (R56, R57). -/
def arbiterChoice (s : State) : Option TxItem :=
  if s.link.transmitter.isNone then arbiterOrder.find? (applies s) else none

/-- The take of an item: its effect where it is the arbiter's choice. Where it is not, the arbiter passes it by, and the
take changes nothing (R56, R58; log entry 3). -/
def takeItem (item : TxItem) (effect : State → State) (s : State) : State :=
  if arbiterChoice s = some item then effect s else s

/-! ## What each take does -/

/-- The acknowledgement that an ACK or a NAK carries is made: no ACK is owed, the count is 0 and the delay timer stops
(R120, R121). -/
def ReceiveSide.acknowledged (v : ReceiveSide) : ReceiveSide :=
  { v with ackOwed := false, ackCount := 0, ackDelayTimer := none }

/-- The take of a NAK (R121). -/
def takeNakItem (s : State) : State :=
  transmit (nakFrame s.link.epoch s.link.recv.expected)
    (updRecv (fun v => { v.acknowledged with nakOwed := false }) s)

/-- The take of an ACK (R120). -/
def takeAckItem (s : State) : State :=
  transmit (ackFrame s.link.epoch s.link.recv.expected) (updRecv ReceiveSide.acknowledged s)

/-- The take of a TRAIN (R115). -/
def takeTrainItem (s : State) : State :=
  transmit (trainFrame s.link.epoch)
    (updLink (fun l =>
      { l with
        trainDue := false
        attempts := riseTo 255 l.attempts
        trainingInterval := some Config.trainingInterval }) s)

/-- The pass after its frame at place i has been resent: at the next frame, or ended with the list's tail (R126). -/
def SendSide.advancePass (i : Nat) (d : SendSide) : SendSide :=
  { d with pass := if i + 1 < d.replayList.length then some (i + 1) else none }

/-- The take of the next frame of a replay pass: the list's own copy is resent (R126). -/
def takeReplayItem (s : State) : State :=
  match s.link.send.pass, replayFrame s.link.send with
  | some i, some f => transmit f.bytes (updSend (SendSide.advancePass i) s)
  | _, _ => s

/-- The take of an ATTENTION-ACK (R59, R108). -/
def takeAttentionAckItem (s : State) : State :=
  match ackOwedUnit s with
  | some (u, n) => sendMessage (attentionAckBody u n) (updUnit u (fun r => { r with ackOwed := none }) s)
  | none => s

/-- The cancel timer as the take of a CANCEL leaves it, for the unit's reply timeout as it stands (R74). -/
def startedCancelTimer (timeout : Halfword) : TagTimer := if timeout = 0 then .idle else .cancel timeout

/-- The take of a CANCEL for the tag at the head of the owed-cancel list (R6, R60, R74). -/
def takeCancelItem (s : State) : State :=
  match s.owedCancels with
  | [] => s
  | t :: rest =>
    let u := (s.tag t).unit
    sendMessage (cancelBody t u)
      (updTag t (fun r => { r with cancelPending := false, timer := startedCancelTimer (s.unit u).replyTimeout })
        { s with owedCancels := rest })

/-- The reply timer as the take of a REQUEST leaves it, for the unit's reply timeout as it stands (R4, R72). -/
def startedReplyTimer (timeout : Halfword) : TagTimer := if timeout = 0 then .idle else .reply timeout

/-- The take of the REQUEST of the tag the dispatcher offers (R4, R52, R61). -/
def takeRequestItem (s : State) : State :=
  match dispatchChoice s with
  | none => s
  | some t =>
    let r := s.tag t
    let s1 := updUnit r.unit (fun v => { v with outstanding := v.outstanding + 1 })
      (updTag t (fun r =>
        { r with
          state := if r.posted then .posted else .sent
          timer := startedReplyTimer (s.unit r.unit).replyTimeout }) s)
    sendMessage (requestBody t r s.store) { s1 with dispatchQueue := s1.dispatchQueue.filter (fun x => x ≠ t) }

/-- The end-of-frame symbol has gone out, and the transmitter is idle (R56). -/
def endTransmission (s : State) : State := updLink (fun l => { l with transmitter := none }) s

/-! ## The meanings -/

/-- The take of an owed NAK (R121). -/
def execNakTake (s : State) : Host.Outcome State Fault Refusal := takeEvent (takeItem .nak takeNakItem) s

/-- The take of an owed ACK (R120). -/
def execAckTake (s : State) : Host.Outcome State Fault Refusal := takeEvent (takeItem .ack takeAckItem) s

/-- The take of a due TRAIN (R115). -/
def execTrainTake (s : State) : Host.Outcome State Fault Refusal := takeEvent (takeItem .train takeTrainItem) s

/-- The take of the next frame of a replay pass (R126). -/
def execReplayTake (s : State) : Host.Outcome State Fault Refusal := takeEvent (takeItem .replay takeReplayItem) s

/-- The take of an ATTENTION-ACK (R108). -/
def execAttentionAckTake (s : State) : Host.Outcome State Fault Refusal :=
  takeEvent (takeItem .attentionAck takeAttentionAckItem) s

/-- The take of a CANCEL (R60). -/
def execCancelTake (s : State) : Host.Outcome State Fault Refusal := takeEvent (takeItem .cancel takeCancelItem) s

/-- The take of a REQUEST (R61). -/
def execRequestTake (s : State) : Host.Outcome State Fault Refusal := takeEvent (takeItem .request takeRequestItem) s

/-- The end of the frame being sent (R56). -/
def execTransmitEnd (s : State) : Host.Outcome State Fault Refusal := takeEvent endTransmission s

end Sys2Proof.Machine
end

