-- ==== Sys2Proof/Machine/Replies.lean ====
section
/-! DEFINITION. The reply matcher (Chapter 5): the form, the matching and the checks of a reply, what an accepted reply and
a violation do, late replies, the two timers' expiries; and CLEAR_POSTED. -/

namespace Sys2Proof.Machine

/-! ## Replies -/

/-- What a well-formed reply carries beside its tag and unit (Section 5.1). -/
inductive ReplyBody where
  | data (final short : Bool) (offset count : Nat) (words : List Word)
  | done
  | refuse (reason : RefusalReason)
  deriving DecidableEq, Repr

/-- Whether a reply is final (Section 5.1). -/
def ReplyBody.isFinal : ReplyBody → Bool
  | .data final _ _ _ _ => final
  | .done | .refuse _ => true

/-- The REPLY-DATA of these fields; none where it is ill formed (R64). -/
def dataReply (final short : Bool) (offset count : Byte) (words : List Word) : Option ReplyBody :=
  if count.toNat = 0 ∨ 16 < count.toNat ∨ words.length ≠ count.toNat ∨ (short = true ∧ final = false) then none
  else some (.data final short offset.toNat count.toNat words)

/-- The REPLY-REFUSE with this reason; none where it is ill formed (R64). -/
def refuseReply (reason : Byte) : Option ReplyBody := (reasonOfByte reason).map .refuse

/-! ## Matching (R65) -/

/-- Whether a tag's situation lets a reply be matched to it (R65). -/
def TagRecord.awaitsReply (r : TagRecord) : Bool :=
  match r.state with
  | .sent | .receiving | .cancelling | .posted | .orphaned => true
  | .complete => r.farReplyPending
  | .free | .queued | .waiting => false

/-- Whether a reply naming a tag and a unit is matched (R65). -/
def matched (t : Tag) (u : UnitNo) (s : State) : Bool :=
  (s.unit u).present && decide ((s.tag t).unit = u) && (s.tag t).awaitsReply

/-- One credit returns to a unit (R67). -/
def returnCredit (u : UnitNo) (s : State) : State := updUnit u (fun r => { r with outstanding := r.outstanding - 1 }) s

/-! ## The checks (R68, Table 5.2) -/

/-- Whether a reply to a tag in SENT, RECEIVING, CANCELLING or POSTED passes every check that applies to it. -/
def passesChecks (r : TagRecord) : ReplyBody → Bool
  | .data final short offset count _ =>
    (match r.kind with
      | .read | .readBlock | .exchange => true
      | .write | .writeBlock | .mark => false)
      && decide (offset = r.wordsReceived)
      && decide (offset + count ≤ r.length)
      && (if final && !short then decide (offset + count = r.length) else decide (offset + count < r.length))
  | .done =>
    match r.kind with
    | .write | .writeBlock => true
    | .read | .readBlock | .exchange | .mark => false
  | .refuse reason => !(r.posted && decide (reason = .cancelled)) || decide (r.state = .cancelling)

/-! ## Accepted replies -/

/-- The words of an accepted segment are placed, and words received rises by their count (R41, R70). -/
def placeData (t : Tag) (offset count : Nat) (words : List Word) (s : State) : State :=
  if (s.tag t).kind.isBlock then
    updTag t (fun r => { r with wordsReceived := r.wordsReceived + count })
      (updStore (writePlaces (s.tag t).chunkList offset words) s)
  else
    updTag t (fun r => { r with wordsReceived := r.wordsReceived + count, slot := words.headD r.slot }) s

/-- A running timer restarted from the unit's reply timeout as it stands; a setting of 0 stops it (R72, R75). -/
def TagTimer.restart (timeout : Halfword) : TagTimer → TagTimer
  | .idle => .idle
  | .reply _ => if timeout = 0 then .idle else .reply timeout
  | .cancel _ => if timeout = 0 then .idle else .cancel timeout

/-- An accepted non-final segment: in SENT and RECEIVING under R70, in CANCELLING under R75. -/
def acceptSegment (t : Tag) (offset count : Nat) (words : List Word) (s : State) : State :=
  updTag t (fun r =>
    { r with
      state := if r.state = .sent then .receiving else r.state
      timer := r.timer.restart (s.unit r.unit).replyTimeout }) (placeData t offset count words s)

/-- The ending of a tag in SENT or RECEIVING, its data already placed (Table 5.3). -/
def replyEnding (r : TagRecord) : ReplyBody → Ending
  | .data _ short _ _ _ =>
    if short then ⟨.short, none, .yes, r.wordsReceived, false⟩ else ⟨.ok, none, .yes, r.length, false⟩
  | .done => ⟨.ok, none, .yes, 0, false⟩
  | .refuse reason => ⟨.refused, some reason, .no, 0, false⟩

/-- The ending of a non-posted tag by an accepted final reply, by its state and cancel cause (R71, R76, R77, Table
5.4). -/
def finalEnding (r : TagRecord) (b : ReplyBody) : Ending :=
  match r.state, r.cancelCause, b with
  | .cancelling, .timeout, .refuse reason => ⟨.timeout, some reason, .no, 0, false⟩
  | .cancelling, .timeout, _ => ⟨.timeout, none, .yes, 0, false⟩
  | .cancelling, _, .refuse .cancelled => ⟨.cancelled, some .cancelled, .no, 0, false⟩
  | _, _, b => replyEnding r b

/-- The data of a reply, if any, is placed (R41). -/
def placeReply (t : Tag) (b : ReplyBody) (s : State) : State :=
  match b with
  | .data _ _ offset count words => placeData t offset count words s
  | .done | .refuse _ => s

/-- An accepted final reply for a non-posted tag: its data is placed first, the credit returns, and the tag completes
(R67, R71, R76, R77). -/
def acceptFinal (t : Tag) (b : ReplyBody) (s : State) : State :=
  let s1 := returnCredit (s.tag t).unit (placeReply t b s)
  completeAndRelease t (finalEnding (s1.tag t) b) s1

/-- The posted failure reason of a refusal accepted in POSTED (R80). -/
def postedRefusal : RefusalReason → PostedReason
  | .address => .address
  | .access => .access
  | .space => .space
  | .length => .length
  | .device => .device
  | .cancelled => .timeout

/-- The report that an accepted final reply for a posted tag gives the latch, if any (R80, R81, Table 5.5). -/
def postedReport (t : Tag) (b : ReplyBody) (s : State) : State :=
  match b with
  | .refuse reason =>
    if (s.tag t).state = .cancelling then reportPosted t .timeout s else reportPosted t (postedRefusal reason) s
  | .data _ _ _ _ _ | .done => s

/-- An accepted reply for a posted tag, always final: the report, the credit, and the tag FREE (R67, R80, R81). -/
def acceptPosted (t : Tag) (b : ReplyBody) (s : State) : State :=
  freeAndRelease t (returnCredit (s.tag t).unit (postedReport t b s))

/-- A reply that passes the checks (R68). -/
def acceptReply (t : Tag) (b : ReplyBody) (s : State) : State :=
  if (s.tag t).posted then acceptPosted t b s
  else
    match b with
    | .data false _ offset count words => acceptSegment t offset count words s
    | b => acceptFinal t b s

/-! ## Violations -/

/-- A violation for a non-posted tag (R69): the credit returns where the reply was final, and the tag completes PROTOCOL;
a non-final reply leaves the final one still owed. -/
def violateNonPosted (t : Tag) (final : Bool) (s : State) : State :=
  completeAndRelease t ⟨.protocol, none, .unknown, 0, !final⟩ (if final then returnCredit (s.tag t).unit s else s)

/-- A violation for a posted tag (R82): PROTOCOL reaches the latch; a final reply returns the credit and frees the tag,
another orphans it. -/
def violatePosted (t : Tag) (final : Bool) (s : State) : State :=
  let s1 := reportPosted t .protocol s
  if final then freeAndRelease t (returnCredit (s.tag t).unit s1) else orphanAndRelease t s1

/-- A reply that fails the checks: a violation, and one protocol error (R69, R82). -/
def violateReply (t : Tag) (b : ReplyBody) (s : State) : State :=
  protocolError (if (s.tag t).posted then violatePosted t b.isFinal s else violateNonPosted t b.isFinal s)

/-! ## Taking a reply -/

/-- A late final reply: the credit returns, and the debt ends (R10, R15, R79). -/
def lateFinal (t : Tag) (s : State) : State :=
  let s1 := returnCredit (s.tag t).unit s
  if (s.tag t).state = .orphaned then freeTag t s1 else updTag t (fun r => { r with farReplyPending := false }) s1

/-- A matched reply, by the tag's situation (Table 5.1). -/
def takeMatched (t : Tag) (b : ReplyBody) (s : State) : State :=
  if (s.tag t).state = .orphaned ∨ (s.tag t).state = .complete then if b.isFinal then lateFinal t s else s
  else if passesChecks (s.tag t) b then acceptReply t b s
  else violateReply t b s

/-- A delivered reply (R64, R65, R66); none stands for an ill-formed one. -/
def takeReply (t : Tag) (u : UnitNo) (b : Option ReplyBody) (s : State) : State :=
  match b with
  | none => protocolError s
  | some b => if matched t u s then takeMatched t b s else protocolError s

/-! ## The two timers of a tag; a stopped timer does not expire -/

/-- The reply timer's expiry in SENT, RECEIVING or POSTED (R73). -/
def expireReplyTimerOf (t : Tag) (s : State) : State :=
  match (s.tag t).timer, (s.tag t).state with
  | .reply _, .sent => enterCancelling .timeout t s
  | .reply _, .receiving => enterCancelling .timeout t s
  | .reply _, .posted => enterCancelling .timeout t s
  | _, _ => s

/-- The ending of the second expiry (R78). -/
def lostEnding : Ending := ⟨.lost, none, .unknown, 0, true⟩

/-- The cancel timer's expiry in CANCELLING: a non-posted tag completes LOST (R78), a posted one is reported LOST and
orphaned (R81). -/
def expireCancelTimerOf (t : Tag) (s : State) : State :=
  match (s.tag t).timer, (s.tag t).state with
  | .cancel _, .cancelling =>
    if (s.tag t).posted then orphanAndRelease t (reportPosted t .lost s) else completeAndRelease t lostEnding s
  | _, _ => s

/-! ## CLEAR_POSTED -/

/-- The command CLEAR_POSTED (R84); its operand is not consulted. -/
def cmdClearPosted (_operand : Byte) (s : State) : State := setResult .done { s with latch := {} }

/-! ## The meanings -/

/-- CLEAR_POSTED (R84). -/
def execClearPosted (operand : Byte) (s : State) : Host.Outcome State Fault Refusal := takeEvent (cmdClearPosted operand) s

/-- A reply timer's expiry (R73). -/
def execReplyTimerExpiry (t : Tag) (s : State) : Host.Outcome State Fault Refusal := takeEvent (expireReplyTimerOf t) s

/-- A cancel timer's expiry (R78, R81). -/
def execCancelTimerExpiry (t : Tag) (s : State) : Host.Outcome State Fault Refusal := takeEvent (expireCancelTimerOf t) s

end Sys2Proof.Machine
end

