-- ==== Sys2Proof/Machine/Directory.lean ====
section
/-! DEFINITION. The unit directory (Chapter 6): unit reports, the end of discovery, units that go, and the host-owned
fields. -/

namespace Sys2Proof.Machine

/-- Whether a UNIT-REPORT passes the checks of R89. -/
def reportAccepted (u : UnitNo) (creditLimit maxBlock : Byte) (s : State) : Bool :=
  !(s.unit u).present && decide (1 ≤ creditLimit.toNat ∧ creditLimit.toNat ≤ 8)
    && decide (1 ≤ maxBlock.toNat ∧ maxBlock.toNat ≤ 64)

/-- A unit record made PRESENT by an accepted report (R90). -/
def reportedUnit (spaces : BitVec 4) (classCode : Halfword) (creditLimit maxBlock : Byte) (r : UnitRecord) : UnitRecord :=
  { r with
    present := true
    classCode := classCode
    creditLimit := creditLimit.toNat
    maxBlock := maxBlock.toNat
    spaces := spaces
    outstanding := 0 }

/-- A delivered UNIT-REPORT (R89, R90, R93). -/
def takeUnitReport (u : UnitNo) (spaces : BitVec 4) (classCode : Halfword) (creditLimit maxBlock : Byte) (s : State) : State :=
  if reportAccepted u creditLimit maxBlock s then
    raiseUnit (updUnit u (reportedUnit spaces classCode creditLimit maxBlock) s)
  else protocolError s

/-- A delivered REPORT-END: in DISCOVERY the discovery timer stops and the link is UP (R91, R116); else it is a protocol
error (R92). -/
def takeReportEnd (s : State) : State :=
  if s.link.state = .discovery then changeState .up (updLink (fun l => { l with discoveryTimer := none }) s)
  else protocolError s

/-- The attention queue at UNIT-GONE: the unit's record stays with ack due no (R109). -/
def goneQueue (u : UnitNo) (q : List AttnRecord) : List AttnRecord :=
  q.map (fun r => if r.unit = u then { r with attn := r.attn.withoutAck } else r)

/-- A delivered UNIT-GONE: a PRESENT unit's tags are settled and its record becomes ABSENT, its held attention discarded
(R18, R94, R109); for an ABSENT unit it is a protocol error (R95). -/
def takeUnitGone (u : UnitNo) (s : State) : State :=
  if (s.unit u).present then
    let s1 := updUnit u (fun r => { absentUnit r with held := none }) (settleUnitTags u s)
    raiseUnit { s1 with attnQueue := goneQueue u s1.attnQueue }
  else protocolError s

/-! ## The host's side -/

/-- A host write of UNIT_SEL (R98). -/
def writeUnitSel (value : Halfword) (s : State) : State :=
  updHost (fun h => { h with unitSel := (value.extractLsb' 0 4).toFin }) s

/-- A host write of UNIT_TIMEOUT: the selected unit's reply timeout (R99). -/
def writeUnitTimeout (value : Halfword) (s : State) : State :=
  updUnit s.host.unitSel (fun r => { r with replyTimeout := value }) s

end Sys2Proof.Machine
end

