-- ==== Sys2Proof/Machine/Attention.lean ====
section
/-! DEFINITION. The attention block (Chapter 7): ATTENTION messages, masking and unmasking, POP_ATTENTION. -/

namespace Sys2Proof.Machine

/-- The content a first ATTENTION makes (R103, R104). -/
def Attn.first (number : Byte) (cause : Halfword) : Attn := ⟨cause, 1, number, true⟩

/-- An ATTENTION merged into a record or a held attention (R103, R104). -/
def Attn.merge (number : Byte) (cause : Halfword) (a : Attn) : Attn :=
  ⟨a.cause ||| cause, riseTo 255 a.count, number, true⟩

/-- A held attention merged into the unit's queue record (R105). -/
def Attn.absorb (held a : Attn) : Attn :=
  ⟨a.cause ||| held.cause, min 255 (a.count + held.count), held.last, a.ackDue || held.ackDue⟩

/-- Whether the queue holds a record for a unit. -/
def queued (u : UnitNo) (q : List AttnRecord) : Bool := q.any (fun r => r.unit = u)

/-- The queue with a unit's record changed in its place, or with a new one at the tail (R103, R105). -/
def putInQueue (u : UnitNo) (merge : Attn → Attn) (fresh : Attn) (q : List AttnRecord) : List AttnRecord :=
  if queued u q then q.map (fun r => if r.unit = u then { r with attn := merge r.attn } else r)
  else q ++ [⟨u, fresh⟩]

/-- The held attention after one more ATTENTION (R104). -/
def holdAttention (number : Byte) (cause : Halfword) : Option Attn → Attn
  | none => Attn.first number cause
  | some a => a.merge number cause

/-- A delivered ATTENTION (R102 to R104). -/
def takeAttention (u : UnitNo) (number : Byte) (cause : Halfword) (s : State) : State :=
  if s.link.state = .up ∧ (s.unit u).present = true then
    if (s.unit u).masked then updUnit u (fun r => { r with held := some (holdAttention number cause r.held) }) s
    else { s with attnQueue := putInQueue u (Attn.merge number cause) (Attn.first number cause) s.attnQueue }
  else protocolError s

/-- The release of a unit's held attention into the queue; it becomes absent (R105). -/
def releaseHeld (u : UnitNo) (s : State) : State :=
  match (s.unit u).held with
  | none => s
  | some h =>
    updUnit u (fun r => { r with held := none }) { s with attnQueue := putInQueue u (Attn.absorb h) h s.attnQueue }

/-- A host write of UNIT_MASK: bit 0 is the selected unit's mask, and a change from MASKED to UNMASKED releases its held
attention (R100, R105). -/
def writeUnitMask (value : Halfword) (s : State) : State :=
  let u := s.host.unitSel
  let masked := value.getLsbD 0
  updUnit u (fun r => { r with masked := masked }) (if (s.unit u).masked ∧ masked = false then releaseHeld u s else s)

/-- The ack owed that popping a record sets, where its ack due is yes and its unit PRESENT (R107, R108). -/
def oweAttentionAck (r : AttnRecord) (s : State) : State :=
  if r.attn.ackDue ∧ (s.unit r.unit).present = true then updUnit r.unit (fun v => { v with ackOwed := some r.attn.last }) s
  else s

/-- The command POP_ATTENTION (R107); its operand is not consulted. -/
def cmdPopAttention (_operand : Byte) (s : State) : State :=
  match s.attnQueue with
  | [] => setResult .empty (updHost (fun h => { h with attnView := { h.attnView with valid := false } }) s)
  | r :: rest =>
    setResult .done
      (oweAttentionAck r
        (updHost (fun h => { h with attnView := ⟨true, r.unit, r.attn.count, r.attn.cause⟩ }) { s with attnQueue := rest }))

/-! ## The meanings -/

/-- POP_ATTENTION (R107). -/
def execPopAttention (operand : Byte) (s : State) : Host.Outcome State Fault Refusal := takeEvent (cmdPopAttention operand) s

/-- A host write of UNIT_MASK (R100, R105). -/
def execUnitMaskWrite (value : Halfword) (s : State) : Host.Outcome State Fault Refusal := takeEvent (writeUnitMask value) s

end Sys2Proof.Machine
end

