-- ==== Sys2Proof/Machine/Receiver.lean ====
section
/-! DEFINITION. The receiver (Section 8.3): the checks and the counting of received frames, the classification of message
frames, what this side comes to owe, and the delivery of messages to their owners. -/

namespace Sys2Proof.Machine

/-! ## What the receiver counts and owes -/

/-- RX_ERRORS rises, stopping at 65535 (R132). -/
def countRxError (s : State) : State := updLink (fun l => { l with rxErrors := riseTo 65535 l.rxErrors }) s

/-- A NAK becomes owed, where NAK made is clear, and NAK made is set (R121). -/
def ReceiveSide.oweNak (v : ReceiveSide) : ReceiveSide := if v.nakMade then v else { v with nakOwed := true, nakMade := true }

/-- A duplicate makes an ACK owed at once (R118, R120). -/
def ReceiveSide.oweAck (v : ReceiveSide) : ReceiveSide := { v with ackOwed := true }

/-- The delivery of an in-order frame (R118, R120): E rises, no NAK is made for the new E, the ack-owed count rises, the
delay timer starts with the first and an ACK becomes owed at the fourth. -/
def ReceiveSide.delivered (v : ReceiveSide) : ReceiveSide :=
  { v with
    expected := v.expected + 1
    nakMade := false
    ackCount := riseTo Config.ackCountLimit v.ackCount
    ackDelayTimer := if v.ackCount = 0 then some Config.ackDelay else v.ackDelayTimer
    ackOwed := v.ackOwed || decide (riseTo Config.ackCountLimit v.ackCount = Config.ackCountOwed) }

/-! ## Delivery (R119) -/

/-- A delivered message, handed to its owner. -/
def deliver (m : Inbound) (s : State) : State :=
  match m with
  | .replyData t u final short offset count words => takeReply t u (dataReply final short offset count words) s
  | .replyDone t u => takeReply t u (some .done) s
  | .replyRefuse t u reason => takeReply t u (refuseReply reason) s
  | .unitReport u spaces classCode limit maxBlock => takeUnitReport u spaces classCode limit maxBlock s
  | .reportEnd => takeReportEnd s
  | .unitGone u => takeUnitGone u s
  | .attention u number cause => takeAttention u number cause s
  | .undefined => protocolError s

/-- A MESSAGE frame that passes the checks in DISCOVERY or UP, classified by its sequence number (R118, Table 8.4). -/
def sequenceMessage (seq : SeqNo) (m : Inbound) (s : State) : State :=
  let d := (seq - s.link.recv.expected).toNat
  if d = 0 then deliver m (updRecv ReceiveSide.delivered s)
  else if d < 16 then updRecv ReceiveSide.oweNak (countRxError s)
  else updRecv ReceiveSide.oweAck s

/-! ## The checks of R117 -/

/-- A frame that passes the CRC and form checks and is no TRAIN, by its epoch and the link state (R117, Table 8.3): what
it does in TRAINING, and what it does in DISCOVERY and UP. -/
def receiveInEpoch (epoch : Epoch) (inTraining inSession : State → State) (s : State) : State :=
  match s.link.state with
  | .down | .faulted => s
  | .training => if epoch = s.link.epoch then inTraining s else countRxError s
  | .discovery | .up => if epoch = s.link.epoch then inSession s else countRxError s

/-- A frame that fails the CRC or form check (R117, Table 8.3). -/
def receiveBroken (s : State) : State :=
  match s.link.state with
  | .down | .faulted => s
  | .training => countRxError s
  | .discovery | .up => updRecv ReceiveSide.oweNak (countRxError s)

/-- A TRAIN frame (R128). -/
def receiveTrain (s : State) : State :=
  match s.link.state with
  | .discovery | .up => linkLoss .farRestart s
  | .down | .faulted => if s.link.autoRestart then enterTraining s else s
  | .training => s

/-- A TRAIN-ACK frame (R116, R117). -/
def receiveTrainAck (epoch : Epoch) (s : State) : State := receiveInEpoch epoch enterDiscovery id s

/-- An ACK frame (R117, R123). -/
def receiveAck (epoch : Epoch) (n : SeqNo) (s : State) : State := receiveInEpoch epoch id (takeAck n) s

/-- A NAK frame (R117, R124). -/
def receiveNak (epoch : Epoch) (n : SeqNo) (s : State) : State := receiveInEpoch epoch id (takeNak n) s

/-- A MESSAGE frame in DOWN or FAULTED: it is discarded, and RX_ERRORS does not rise (R117, R132). A reply of the old link,
taken after link loss and before a new training, finds its unit ABSENT and is discarded under R66 as a protocol error (R85).
DEDUCED: "not counted" in R117 and R129 is said of RX_ERRORS, and leaves R85 its protocol error (log entry 16). -/
def discardMessage (h : MsgHeader) (m : Inbound) (s : State) : State :=
  if m.isReply = true ∧ s.link.afterLoss = true ∧ h.epoch = s.link.epoch then protocolError s else s

/-- A MESSAGE frame (R117, R118). -/
def receiveMessage (h : MsgHeader) (m : Inbound) (s : State) : State :=
  match s.link.state with
  | .down | .faulted => discardMessage h m s
  | .training | .discovery | .up => receiveInEpoch h.epoch id (sequenceMessage h.seq m) s

/-- A frame that passes the CRC and form checks, taken as its type requires (R117, check 4). -/
def receiveFrame (f : Frame) (s : State) : State :=
  match f with
  | .train _ => receiveTrain s
  | .trainAck e => receiveTrainAck e s
  | .ack e n => receiveAck e n s
  | .nak e n => receiveNak e n s
  | .message h body => receiveMessage h (parseMessage body) s

/-- A frame as the receive lane gives it, through every check of R117. -/
def receiveRaw (f : RawFrame) (s : State) : State :=
  match f.check with
  | .error _ => receiveBroken s
  | .ok frame => receiveFrame frame s

/-! ## The meanings -/

/-- A received TRAIN frame; its epoch is not checked (R117, R128). -/
def execTrain (_epoch : Epoch) (s : State) : Host.Outcome State Fault Refusal := takeEvent receiveTrain s

/-- A received TRAIN-ACK frame (R116). -/
def execTrainAck (epoch : Epoch) (s : State) : Host.Outcome State Fault Refusal := takeEvent (receiveTrainAck epoch) s

/-- A received ACK frame (R123). -/
def execAck (epoch : Epoch) (n : SeqNo) (s : State) : Host.Outcome State Fault Refusal := takeEvent (receiveAck epoch n) s

/-- A received NAK frame (R124). -/
def execNak (epoch : Epoch) (n : SeqNo) (s : State) : Host.Outcome State Fault Refusal := takeEvent (receiveNak epoch n) s

/-- A received frame that fails a check of R117, given as its bytes: the checks are run on them. -/
def execFrameCheckFailure (f : RawFrame) (s : State) : Host.Outcome State Fault Refusal := takeEvent (receiveRaw f) s

/-- A received MESSAGE frame ahead of or behind the expected number (R118), given with its body: the classification is
made here. -/
def execMessageOutOfSequence (h : MsgHeader) (body : List Word) (s : State) : Host.Outcome State Fault Refusal :=
  takeEvent (receiveMessage h (parseMessage body)) s

/-- A REPLY-DATA message (R70). -/
def execReplyData (h : MsgHeader) (t : Tag) (u : UnitNo) (final short : Bool) (offset count : Byte) (words : List Word)
    (s : State) : Host.Outcome State Fault Refusal :=
  takeEvent (receiveMessage h (.replyData t u final short offset count words)) s

/-- A REPLY-DONE message (R71). -/
def execReplyDone (h : MsgHeader) (t : Tag) (u : UnitNo) (s : State) : Host.Outcome State Fault Refusal :=
  takeEvent (receiveMessage h (.replyDone t u)) s

/-- A REPLY-REFUSE message (R76). -/
def execReplyRefuse (h : MsgHeader) (t : Tag) (u : UnitNo) (reason : Byte) (s : State) : Host.Outcome State Fault Refusal :=
  takeEvent (receiveMessage h (.replyRefuse t u reason)) s

/-- A UNIT-REPORT message (R90). -/
def execUnitReport (h : MsgHeader) (u : UnitNo) (spaces : BitVec 4) (classCode : Halfword) (limit maxBlock : Byte)
    (s : State) : Host.Outcome State Fault Refusal :=
  takeEvent (receiveMessage h (.unitReport u spaces classCode limit maxBlock)) s

/-- A REPORT-END message (R91). -/
def execReportEnd (h : MsgHeader) (s : State) : Host.Outcome State Fault Refusal :=
  takeEvent (receiveMessage h .reportEnd) s

/-- A UNIT-GONE message (R94). -/
def execUnitGone (h : MsgHeader) (u : UnitNo) (s : State) : Host.Outcome State Fault Refusal :=
  takeEvent (receiveMessage h (.unitGone u)) s

/-- An ATTENTION message (R102). -/
def execAttention (h : MsgHeader) (u : UnitNo) (number : Byte) (cause : Halfword) (s : State) :
    Host.Outcome State Fault Refusal :=
  takeEvent (receiveMessage h (.attention u number cause)) s

/-- A message of an outbound or undefined code, or of an empty or too-short body, given with its body (R119, R139). -/
def execUndefinedMessage (h : MsgHeader) (body : List Word) (s : State) : Host.Outcome State Fault Refusal :=
  takeEvent (receiveMessage h (parseMessage body)) s

end Sys2Proof.Machine
end

