-- ==== Sys2Proof/Machine/Resets.lean ====
section
/-! DEFINITION. The two resets (Section 10.3). -/

namespace Sys2Proof.Machine

/-- A unit record after SOFT_RESET: the host-owned fields kept (R97). -/
def softResetUnit (r : UnitRecord) : UnitRecord := { replyTimeout := r.replyTimeout, masked := r.masked }

/-- The link controller after SOFT_RESET: the epoch and the settings kept (R134). -/
def softResetLink (l : Link) : Link :=
  { epoch := l.epoch, autoRestart := l.autoRestart, trainingLimit := l.trainingLimit, replayTimeout := l.replayTimeout }

/-- The event unit after SOFT_RESET: the enables and the coalescing settings kept (R148, Table 10.4). -/
def softResetEvents (e : EventUnit) : EventUnit := { enables := e.enables, threshold := e.threshold, holdoff := e.holdoff }

/-- The command SOFT_RESET (R148): the power-on values, but for the state of Table 10.4; CMD_RESULT shows DONE. Its operand
is not consulted. What the host has read is no state of the part, and the waiting commands and the pin RESET_N are the
environment's. -/
def cmdSoftReset (_operand : Byte) (s : State) : State :=
  { State.reset with
    pending := s.pending
    resetAsserted := s.resetAsserted
    host := { cmdResult := .done, readData := s.host.readData }
    units := mapTable softResetUnit s.units
    link := softResetLink s.link
    events := softResetEvents s.events }

/-- SOFT_RESET (R148). -/
def execSoftReset (operand : Byte) (s : State) : Host.Outcome State Fault Refusal := takeEvent (cmdSoftReset operand) s

/-- The pin RESET_N (R147). Asserted, it puts every block at its power-on values and holds it there: no other command has an
effect until it is released. Released, the part begins from those values. -/
def execResetN (asserted : Bool) (s : State) : Host.Outcome State Fault Refusal :=
  if asserted then .next { State.reset with pending := s.pending, resetAsserted := true }
  else .next { s with resetAsserted := false }

end Sys2Proof.Machine
end

