-- ==== Sys2Proof/Machine/HostPort.lean ====
section
/-! DEFINITION. The host port (Chapter 10): the command decoder, the writes of every register, and every register as a
host read shows it (Table 9.7). -/

namespace Sys2Proof.Machine

/-! ## Commands -/

/-- A write to CMD with a code that is no command's: refused BAD_CODE, and nothing else (R144, step 1). -/
def refuseBadCode (s : State) : State := setResult .badCode s

/-- A write to CMD, by its code and operand (R144, Table 10.2). -/
def issueCommand (code operand : Byte) (s : State) : State :=
  if code = 0x01#8 then cmdSubmit operand s
  else if code = 0x02#8 then cmdCancel operand s
  else if code = 0x03#8 then cmdPopResult operand s
  else if code = 0x04#8 then cmdRelease operand s
  else if code = 0x05#8 then cmdSelect operand s
  else if code = 0x06#8 then cmdPopAttention operand s
  else if code = 0x07#8 then cmdClearStaging operand s
  else if code = 0x08#8 then cmdClearPosted operand s
  else if code = 0x09#8 then cmdLinkStart operand s
  else if code = 0x0A#8 then cmdLinkStop operand s
  else if code = 0x0F#8 then cmdSoftReset operand s
  else refuseBadCode s

/-! ## Writes -/

/-- A host write of STG_CMD (R22, Table 9.7). -/
def writeStgCmd (value : Halfword) (s : State) : State :=
  updStaging (fun g =>
    { g with
      posted := value.getLsbD 15
      unit := (value.extractLsb' 8 4).toFin
      space := spaceOfCode (value.extractLsb' 4 2)
      kindCode := value.extractLsb' 0 3 }) s

/-- A host write of STG_ADDR_H (R22, R23). -/
def writeStgAddrH (value : Halfword) (s : State) : State :=
  updStaging (fun g => { g with address := joinHalves value (lowHalf g.address) }) s

/-- A host write of STG_ADDR_L (R22, R23). -/
def writeStgAddrL (value : Halfword) (s : State) : State :=
  updStaging (fun g => { g with address := joinHalves (highHalf g.address) value }) s

/-- A host write of STG_LEN_LANES (R22, Table 9.7). -/
def writeStgLenLanes (value : Halfword) (s : State) : State :=
  updStaging (fun g => { g with length := value.extractLsb' 0 7, laneMask := value.extractLsb' 8 4 }) s

/-- A host write of EVENTS (R151). -/
def writeEvents (value : Halfword) (s : State) : State := updEvents (clearSticky value) s

/-- A host write of EVENT_EN (R152). -/
def writeEventEn (value : Halfword) (s : State) : State :=
  updEvents (fun e => { e with enables := value.extractLsb' 0 7 }) s

/-- A host write to PROTO_ERRORS sets the count to 0, whatever is written (R155). -/
def clearProtoErrors (s : State) : State := updEvents (fun e => { e with protoErrors := 0 }) s

/-- A host write to a register (R142, Table 10.1): by its access type it stores the written fields, issues a command,
clears a counter or flags, or is ignored with ACCESS. -/
def writeRegister (r : Reg) (value : Halfword) (s : State) : State :=
  match r with
  | .stgCmd => writeStgCmd value s
  | .stgAddrH => writeStgAddrH value s
  | .stgAddrL => writeStgAddrL value s
  | .stgLenLanes => writeStgLenLanes value s
  | .linkTiming => writeLinkTiming value s
  | .unitSel => writeUnitSel value s
  | .unitTimeout => writeUnitTimeout value s
  | .id | .cmdResult | .linkState | .stgCount | .lastTag | .resViewA | .resViewB | .resWords | .rdDataH | .rdDataL
  | .attnView | .attnCause | .unitInfo | .unitClass | .unitCaps | .postedFailA | .postedFailAddrH | .postedFailAddrL
  | .postedOverflow | .levelsA | .levelsB => raiseAccess s
  | .cmd => issueCommand (value.extractLsb' 8 8) (value.extractLsb' 0 8) s
  | .events => writeEvents value s
  | .eventEn => writeEventEn value s
  | .resultCoalesce => writeCoalesce value s
  | .linkCtrl => writeLinkCtrl value s
  | .rxErrors => clearLinkCounter .rxErrors s
  | .replayCount => clearLinkCounter .replayCount s
  | .stgDataH => writeStgDataH value s
  | .stgDataL => writeStgDataL value s
  | .unitMask => writeUnitMask value s
  | .protoErrors => clearProtoErrors s

/-- A host access to an unused offset: a read returns 0, and either sets ACCESS (R143). -/
def accessUnused (a : Access) (s : State) : State :=
  match a with
  | .read => raiseAccess (updHost (fun h => { h with readData := 0 }) s)
  | .write _ => raiseAccess s

/-! ## Reads -/

/-- A number shown in the register bits from `low` up. -/
def field (low n : Nat) : Halfword := BitVec.ofNat 16 n <<< low

/-- A flag shown in one register bit. -/
def flag (bit : Nat) (b : Bool) : Halfword := field bit b.toNat

/-- RES_VIEW_A (Table 9.7). -/
def showResViewA (v : ResultView) : Halfword :=
  match v.shown with
  | none => flag 15 v.valid
  | some c => flag 15 v.valid ||| field 8 c.tag.val ||| field 4 c.outcome.code ||| field 0 c.executed.code

/-- RES_VIEW_B (Table 9.7). -/
def showResViewB (v : ResultView) : Halfword :=
  match v.shown with
  | none => 0
  | some c =>
    flag 15 c.cancelRequested ||| field 8 ((c.reason.map RefusalReason.code).getD 0) ||| field 4 c.unit.val
      ||| field 0 c.kind.code

/-- RES_WORDS (Table 9.7). -/
def showResWords (v : ResultView) : Halfword :=
  match v.shown with
  | none => 0
  | some c => field 0 c.wordsDelivered

/-- POSTED_FAIL_A (R84, Table 9.7). -/
def showPostedFailA (l : PostedLatch) : Halfword :=
  match l.record with
  | none => 0
  | some f => flag 15 true ||| field 10 f.tag.val ||| field 6 f.unit.val ||| field 0 f.reason.code

/-- The address of the posted failure latch, 0 while it is empty (R84). -/
def postedAddress (l : PostedLatch) : Word :=
  match l.record with
  | none => 0
  | some f => f.address

/-- A register as a host read shows it: every field in its place in Table 9.7, every reserved bit 0 (R140, R141). -/
def readRegister (r : Reg) (s : State) : Halfword :=
  let g := s.staging
  let u := s.unit s.host.unitSel
  match r with
  | .id => Config.identity
  | .cmd => 0
  | .cmdResult => field 0 s.host.cmdResult.code
  | .events => (eventFlags s).setWidth 16
  | .eventEn => s.events.enables.setWidth 16
  | .resultCoalesce => field 8 s.events.holdoff.toNat ||| field 0 s.events.threshold
  | .linkState => field 8 s.link.lastLoss.code ||| field 4 s.link.epoch.toNat ||| field 0 s.link.state.code
  | .linkCtrl => flag 15 s.link.autoRestart ||| field 0 s.link.trainingLimit.toNat
  | .linkTiming => field 0 s.link.replayTimeout
  | .rxErrors => field 0 s.link.rxErrors
  | .replayCount => field 0 s.link.replayCount
  | .stgCmd => flag 15 g.posted ||| field 8 g.unit.val ||| field 4 g.space.code ||| field 0 g.kindCode.toNat
  | .stgAddrH => highHalf g.address
  | .stgAddrL => lowHalf g.address
  | .stgLenLanes => field 8 g.laneMask.toNat ||| field 0 g.length.toNat
  | .stgDataH => s.host.highLatch
  | .stgDataL => lowHalf (g.payload.getLastD 0)
  | .stgCount => field 0 g.payload.length
  | .lastTag => field 0 s.lastTag.val
  | .resViewA => showResViewA s.host.resultView
  | .resViewB => showResViewB s.host.resultView
  | .resWords => showResWords s.host.resultView
  | .rdDataH => ((portWord s).map highHalf).getD 0
  | .rdDataL => ((portWord s).map lowHalf).getD 0
  | .attnView =>
    flag 15 s.host.attnView.valid ||| field 8 s.host.attnView.unit.val ||| field 0 s.host.attnView.count
  | .attnCause => s.host.attnView.cause
  | .unitSel => field 0 s.host.unitSel.val
  | .unitInfo => flag 15 u.present ||| field 8 u.creditLimit ||| field 0 u.outstanding
  | .unitClass => u.classCode
  | .unitTimeout => u.replyTimeout
  | .unitCaps => field 8 u.maxBlock ||| field 0 u.spaces.toNat
  | .unitMask => flag 0 u.masked
  | .postedFailA => showPostedFailA s.latch
  | .postedFailAddrH => highHalf (postedAddress s.latch)
  | .postedFailAddrL => lowHalf (postedAddress s.latch)
  | .postedOverflow => field 0 s.latch.overflow
  | .protoErrors => field 0 s.events.protoErrors
  | .levelsA => field 8 (freeTagCount s) ||| field 0 (freeChunkCount s.store)
  | .levelsB => field 8 s.results.length ||| field 0 s.attnQueue.length

/-- The value of a host read at offset 2 × n, while RESET_N is asserted 0 (R141, R143, R147). -/
def readOffset (n : Fin 64) (s : State) : Halfword :=
  if s.resetAsserted then 0
  else
    match Reg.ofIndex n with
    | some r => readRegister r s
    | none => 0

/-- The event of a host read of a register (R141): the register's value goes onto D0 to D15. A read of RD_DATA_H or
RD_DATA_L has its effects too (R43, R44); any other changes nothing else. -/
def readEvent (r : Reg) (s : State) : State :=
  match r with
  | .rdDataH => readRdDataH s
  | .rdDataL => readRdDataL s
  | r => updHost (fun h => { h with readData := readRegister r s }) s

/-- The event of a host read at offset 2 × n (R141, R143). -/
def readEventAt (n : Fin 64) (s : State) : State :=
  match Reg.ofIndex n with
  | some r => readEvent r s
  | none => accessUnused .read s

/-- Take a host read at offset 2 × n (R141). Where the read has a row of the table (decodeHostRead) this is what exec
answers for the row; the other reads have no row, and so no step (log entry 13). -/
def takeHostRead (n : Fin 64) (s : State) : Host.Outcome State Fault Refusal := takeRead (readEventAt n) s

/-! ## The meanings -/

/-- A write to CMD whose code is not one of the eleven (R144). -/
def execBadCode (code operand : Byte) (s : State) : Host.Outcome State Fault Refusal :=
  takeEvent (issueCommand code operand) s

/-- A host write of EVENTS (R151). -/
def execEventsWrite (value : Halfword) (s : State) : Host.Outcome State Fault Refusal := takeEvent (writeEvents value) s

/-- A host write of EVENT_EN (R152). -/
def execEventEnWrite (value : Halfword) (s : State) : Host.Outcome State Fault Refusal := takeEvent (writeEventEn value) s

/-- A host write of RESULT_COALESCE (R153, R154). -/
def execResultCoalesceWrite (value : Halfword) (s : State) : Host.Outcome State Fault Refusal :=
  takeEvent (writeCoalesce value) s

/-- A host write to PROTO_ERRORS (R155); the written value is not stored. -/
def execProtoErrorsWrite (_value : Halfword) (s : State) : Host.Outcome State Fault Refusal := takeEvent clearProtoErrors s

/-- A host access to an unused offset (R143); every unused offset is alike. -/
def execUnusedOffsetAccess (_place : Fin 25) (a : Access) (s : State) : Host.Outcome State Fault Refusal :=
  match a with
  | .read => takeRead (accessUnused .read) s
  | .write v => takeEvent (accessUnused (.write v)) s

/-- A host write to any other register (R142). -/
def execRegisterWrite (r : Reg) (value : Halfword) (s : State) : Host.Outcome State Fault Refusal :=
  takeEvent (writeRegister r value) s

/-- The holdoff timer's expiry (R154). -/
def execHoldoffTimerExpiry (s : State) : Host.Outcome State Fault Refusal := takeEvent holdoffExpiry s

end Sys2Proof.Machine
end

