-- ==== Sys2Proof/Machine/Dispatch.lean ====
section
/-! DEFINITION. exec: the meaning of every command of spec/opcode_table.json, one arm each. -/

namespace Sys2Proof.Machine

/-- The effect of a command on everything but the queue of waiting commands. -/
def exec (i : Instr) (s : State) : Host.Outcome State Fault Refusal :=
  match i with
  | .submit operand => Sys2Proof.Machine.execSubmit operand s
  | .cancel operand => Sys2Proof.Machine.execCancel operand s
  | .popResult operand => Sys2Proof.Machine.execPopResult operand s
  | .release operand => Sys2Proof.Machine.execRelease operand s
  | .select operand => Sys2Proof.Machine.execSelect operand s
  | .popAttention operand => Sys2Proof.Machine.execPopAttention operand s
  | .clearStaging operand => Sys2Proof.Machine.execClearStaging operand s
  | .clearPosted operand => Sys2Proof.Machine.execClearPosted operand s
  | .linkStart operand => Sys2Proof.Machine.execLinkStart operand s
  | .linkStop operand => Sys2Proof.Machine.execLinkStop operand s
  | .softReset operand => Sys2Proof.Machine.execSoftReset operand s
  | .badCode code operand => Sys2Proof.Machine.execBadCode code operand s
  | .stgDataHWrite value => Sys2Proof.Machine.execStgDataHWrite value s
  | .stgDataLWrite value => Sys2Proof.Machine.execStgDataLWrite value s
  | .rdDataHRead => Sys2Proof.Machine.execRdDataHRead s
  | .rdDataLRead => Sys2Proof.Machine.execRdDataLRead s
  | .unitMaskWrite value => Sys2Proof.Machine.execUnitMaskWrite value s
  | .linkCtrlWrite value => Sys2Proof.Machine.execLinkCtrlWrite value s
  | .eventsWrite value => Sys2Proof.Machine.execEventsWrite value s
  | .eventEnWrite value => Sys2Proof.Machine.execEventEnWrite value s
  | .resultCoalesceWrite value => Sys2Proof.Machine.execResultCoalesceWrite value s
  | .linkCounterWrite counter value => Sys2Proof.Machine.execLinkCounterWrite counter value s
  | .protoErrorsWrite value => Sys2Proof.Machine.execProtoErrorsWrite value s
  | .unusedOffsetAccess place access => Sys2Proof.Machine.execUnusedOffsetAccess place access s
  | .registerWrite register value => Sys2Proof.Machine.execRegisterWrite register value s
  | .resetN asserted => Sys2Proof.Machine.execResetN asserted s
  | .lossOfSignal => Sys2Proof.Machine.execLossOfSignal s
  | .train epoch => Sys2Proof.Machine.execTrain epoch s
  | .trainAck epoch => Sys2Proof.Machine.execTrainAck epoch s
  | .ack epoch number => Sys2Proof.Machine.execAck epoch number s
  | .nak epoch number => Sys2Proof.Machine.execNak epoch number s
  | .frameCheckFailure frame => Sys2Proof.Machine.execFrameCheckFailure frame s
  | .messageOutOfSequence header body => Sys2Proof.Machine.execMessageOutOfSequence header body s
  | .replyData header tag unit final short offset count words => Sys2Proof.Machine.execReplyData header tag unit final short offset count words s
  | .replyDone header tag unit => Sys2Proof.Machine.execReplyDone header tag unit s
  | .replyRefuse header tag unit reason => Sys2Proof.Machine.execReplyRefuse header tag unit reason s
  | .unitReport header unit spaces classCode creditLimit maxBlock => Sys2Proof.Machine.execUnitReport header unit spaces classCode creditLimit maxBlock s
  | .reportEnd header => Sys2Proof.Machine.execReportEnd header s
  | .unitGone header unit => Sys2Proof.Machine.execUnitGone header unit s
  | .attention header unit number cause => Sys2Proof.Machine.execAttention header unit number cause s
  | .undefinedMessage header body => Sys2Proof.Machine.execUndefinedMessage header body s
  | .replyTimerExpiry tag => Sys2Proof.Machine.execReplyTimerExpiry tag s
  | .cancelTimerExpiry tag => Sys2Proof.Machine.execCancelTimerExpiry tag s
  | .trainingIntervalEnd => Sys2Proof.Machine.execTrainingIntervalEnd s
  | .discoveryTimerExpiry => Sys2Proof.Machine.execDiscoveryTimerExpiry s
  | .replayTimerExpiry => Sys2Proof.Machine.execReplayTimerExpiry s
  | .ackDelayTimerExpiry => Sys2Proof.Machine.execAckDelayTimerExpiry s
  | .restartTimerExpiry => Sys2Proof.Machine.execRestartTimerExpiry s
  | .holdoffTimerExpiry => Sys2Proof.Machine.execHoldoffTimerExpiry s
  | .nakTake => Sys2Proof.Machine.execNakTake s
  | .ackTake => Sys2Proof.Machine.execAckTake s
  | .trainTake => Sys2Proof.Machine.execTrainTake s
  | .replayTake => Sys2Proof.Machine.execReplayTake s
  | .attentionAckTake => Sys2Proof.Machine.execAttentionAckTake s
  | .cancelTake => Sys2Proof.Machine.execCancelTake s
  | .requestTake => Sys2Proof.Machine.execRequestTake s
  | .transmitEnd => Sys2Proof.Machine.execTransmitEnd s

end Sys2Proof.Machine
end

