-- ==== Sys2Proof/Safety.lean ====
section
/-! DEFINITION. What the statements are made of: a step that proceeds, the reachable states, the conditions that the spec
says hold at every instant, each as a predicate of the state, and the effects that several commands share, each as a
relation between the state before and the state after. -/

namespace Sys2Proof.Machine

/-- A step that goes on: it answers a next state, not a fault and not a refusal. -/
def Proceeds (s : State) : Prop := ∃ t, step s = .next t

/-- A state that is reached from the state after reset by steps, any commands being put at the end of the queue between
them. -/
inductive Reachable : State → Prop where
  | reset : Reachable State.reset
  | command (s : State) (c : Instr) : Reachable s → Reachable { s with pending := s.pending ++ [c] }
  | step (s t : State) : Reachable s → step s = .next t → Reachable t

/-- A predicate that every step keeps, whichever state it starts from. -/
def KeptByStep (P : State → Prop) : Prop := ∀ s t : State, P s → step s = .next t → P t

/-! ## Tags and lists -/

/-- Whether a tag in this state stands in its unit's order list (Table 1.2, R48). -/
def TagState.inOrderList : TagState → Bool
  | .queued | .waiting | .sent | .receiving | .cancelling | .posted => true
  | .free | .complete | .orphaned => false

/-- Whether the far end owes a tag a final reply (Table 1.2, R67). -/
def TagRecord.owed (r : TagRecord) : Bool :=
  match r.state with
  | .sent | .receiving | .cancelling | .posted | .orphaned => true
  | .complete => r.farReplyPending
  | .free | .queued | .waiting => false

/-- The dispatch queue holds exactly the tags in QUEUED, each once (R47). -/
def DispatchQueueExact (s : State) : Prop :=
  s.dispatchQueue.Nodup ∧ ∀ t, t ∈ s.dispatchQueue ↔ (s.tag t).state = .queued

/-- Each unit's order list holds exactly that unit's tags in QUEUED, WAITING, SENT, RECEIVING, CANCELLING and POSTED, each
once (R48). -/
def OrderListsExact (s : State) : Prop :=
  ∀ u, (s.unit u).orderList.Nodup
    ∧ ∀ t, t ∈ (s.unit u).orderList ↔ (s.tag t).unit = u ∧ (s.tag t).state.inOrderList = true

/-- In no order list does a tag that has been sent stand after one that has not (R49). -/
def SentStandFirst (s : State) : Prop :=
  ∀ u, (s.unit u).orderList.Pairwise
    (fun a b => ¬ ((s.tag a).state.unsent = true ∧ (s.tag b).state.inFlight = true))

/-- The owed-cancel list holds exactly the tags whose cancel pending is yes, each once, and each of them is in CANCELLING
(R60). -/
def OwedCancelsExact (s : State) : Prop :=
  s.owedCancels.Nodup ∧ (∀ t, t ∈ s.owedCancels ↔ (s.tag t).cancelPending = true)
    ∧ ∀ t, (s.tag t).cancelPending = true → (s.tag t).state = .cancelling

/-- The three lists hold the tags the states say, in the division of R49. -/
def ListsExact (s : State) : Prop :=
  DispatchQueueExact s ∧ OrderListsExact s ∧ SentStandFirst s ∧ OwedCancelsExact s

/-- The result queue holds one record for each COMPLETE tag that has not been popped, and no other (R11). -/
def ResultQueueExact (s : State) : Prop :=
  (s.results.map CompletionRecord.tag).Nodup
    ∧ ∀ t, t ∈ s.results.map CompletionRecord.tag ↔ (s.tag t).state = .complete ∧ (s.tag t).popped = false

/-- How many chunks a tag holds: ceil(length / 16) for a block kind, from its acceptance until it is FREE or ORPHANED, and
none else (R37, R39). -/
def TagRecord.chunksHeld (r : TagRecord) : Nat :=
  match r.state with
  | .free | .orphaned => 0
  | .queued | .waiting | .sent | .receiving | .cancelling | .posted | .complete =>
    if r.kind.isBlock then (r.length + 15) / 16 else 0

/-- Every chunk is in the free pool or on the chunk list of exactly one tag, and never both; a chunk list is ascending and
has the length that its tag's state, kind and block length say (R37, R39). -/
def ChunksAccounted (s : State) : Prop :=
  (∀ t, (s.tag t).chunkList.Pairwise (fun a b => a < b))
    ∧ (∀ t t' c, c ∈ (s.tag t).chunkList → c ∈ (s.tag t').chunkList → t = t')
    ∧ (∀ c, s.store.free.get c = true ↔ ∀ t, c ∉ (s.tag t).chunkList)
    ∧ ∀ t, (s.tag t).chunkList.length = (s.tag t).chunksHeld

/-- The number of a unit's tags that are still owed a final reply (R67). -/
def owedCount (s : State) (u : UnitNo) : Nat :=
  (allTags.filter (fun t => (s.tag t).owed && decide ((s.tag t).unit = u))).length

/-- Every unit's outstanding count is the number of its tags still owed a final reply, and does not exceed its credit
limit; an ABSENT unit has both at 0 (R67, R87). -/
def CreditsExact (s : State) : Prop :=
  ∀ u, (s.unit u).outstanding = owedCount s u ∧ (s.unit u).outstanding ≤ (s.unit u).creditLimit
    ∧ ((s.unit u).present = false → (s.unit u).creditLimit = 0)

/-- While the link is not UP, every tag is FREE, or COMPLETE with far-reply-pending no (R17). -/
def QuietUnlessUp (s : State) : Prop :=
  s.link.state ≠ .up →
    ∀ t, (s.tag t).state = .free ∨ ((s.tag t).state = .complete ∧ (s.tag t).farReplyPending = false)

/-- A tag in FREE has every other field of its record at the power-on value (R2). -/
def FreeTagsBlank (s : State) : Prop := ∀ t, (s.tag t).state = .free → s.tag t = {}

/-- No WAITING MARK stands first in an order list: one that becomes first completes in the same event (R54). -/
def MarksReleased (s : State) : Prop := ∀ u t, (s.unit u).orderList.head? = some t → (s.tag t).state ≠ .waiting

/-- Every length is 1 to 64 words, and neither words received nor words delivered exceeds it (Table 1.1). -/
def LengthsInRange (s : State) : Prop :=
  ∀ t, 1 ≤ (s.tag t).length ∧ (s.tag t).length ≤ 64 ∧ (s.tag t).wordsReceived ≤ (s.tag t).length
    ∧ (s.tag t).wordsDelivered ≤ (s.tag t).length

/-- The selected tag is in COMPLETE, the read limit is its words delivered, and the read pointer has not passed the limit
(R44, R45). -/
def SelectionSound (s : State) : Prop :=
  match s.host.selected with
  | none => s.host.readPointer = 0 ∧ s.host.readLimit = 0
  | some t =>
    (s.tag t).state = .complete ∧ s.host.readLimit = (s.tag t).wordsDelivered
      ∧ s.host.readPointer ≤ s.host.readLimit

/-- A tag's timer runs only where the spec starts it: the reply timer in SENT, RECEIVING and POSTED, the cancel timer in
CANCELLING with no CANCEL owed; and neither with a setting of 0 (R72, R74). -/
def TagTimersSound (s : State) : Prop :=
  ∀ t,
    match (s.tag t).timer with
    | .idle => True
    | .reply T =>
      T ≠ 0 ∧ ((s.tag t).state = .sent ∨ (s.tag t).state = .receiving ∨ (s.tag t).state = .posted)
    | .cancel T => T ≠ 0 ∧ (s.tag t).state = .cancelling ∧ (s.tag t).cancelPending = false

/-- A posted tag is in QUEUED, POSTED, CANCELLING or ORPHANED, a tag in POSTED is posted, and a MARK is in WAITING or
COMPLETE and owed no reply, so never sent and never ORPHANED (R2, R14, R54). -/
def StatesSound (s : State) : Prop :=
  ∀ t,
    ((s.tag t).posted = true →
      (s.tag t).state = .queued ∨ (s.tag t).state = .posted ∨ (s.tag t).state = .cancelling ∨ (s.tag t).state = .orphaned)
    ∧ ((s.tag t).state = .posted → (s.tag t).posted = true)
    ∧ ((s.tag t).farReplyPending = true → (s.tag t).state = .complete)
    ∧ ((s.tag t).posted = true → (s.tag t).kind.mayBePosted = true)
    ∧ ((s.tag t).state = .waiting → (s.tag t).kind = .mark)
    ∧ ((s.tag t).kind = .mark →
      ((s.tag t).state = .waiting ∨ (s.tag t).state = .complete) ∧ (s.tag t).farReplyPending = false)

/-! ## Units and attentions -/

/-- An ABSENT unit holds the ABSENT values, a PRESENT one the ranges a report may give, and outside DISCOVERY and UP every
unit is ABSENT (Table 6.1, R87, R89). -/
def DirectorySound (s : State) : Prop :=
  (∀ u, (s.unit u).present = false →
    (s.unit u).classCode = 0 ∧ (s.unit u).creditLimit = 0 ∧ (s.unit u).maxBlock = 0 ∧ (s.unit u).spaces = 0
      ∧ (s.unit u).outstanding = 0 ∧ (s.unit u).orderList = [] ∧ (s.unit u).ackOwed = none)
  ∧ (∀ u, (s.unit u).present = true →
    1 ≤ (s.unit u).creditLimit ∧ (s.unit u).creditLimit ≤ 8 ∧ 1 ≤ (s.unit u).maxBlock ∧ (s.unit u).maxBlock ≤ 64)
  ∧ (s.link.state ≠ .discovery → s.link.state ≠ .up → ∀ u, (s.unit u).present = false)

/-- The attention queue holds at most one record for a unit, and every count of a record or a held attention is 1 to 255
(R101). -/
def AttentionsSound (s : State) : Prop :=
  (s.attnQueue.map AttnRecord.unit).Nodup
    ∧ (∀ r ∈ s.attnQueue, 1 ≤ r.attn.count ∧ r.attn.count ≤ 255)
    ∧ ∀ u a, (s.unit u).held = some a → 1 ≤ a.count ∧ a.count ≤ 255

/-! ## The link -/

/-- The send side: at most 8 frames with consecutive sequence numbers up to the next one, each the number its own copy
carries; a pass in progress has a next frame; the replay timer runs exactly while the list is not empty; and outside UP the
list is empty (R122, R125, R126). -/
def SendSideSound (s : State) : Prop :=
  let d := s.link.send
  d.replayList.length ≤ Config.replayListLimit
    ∧ (∀ i f, d.replayList[i]? = some f → f.seq = d.next - BitVec.ofNat 5 (d.replayList.length - i))
    ∧ (∀ i, d.pass = some i → i < d.replayList.length)
    ∧ (d.replayTimer.isSome = true ↔ d.replayList ≠ [])
    ∧ d.episode ≤ Config.episodeLimit
    ∧ (s.link.state ≠ .up → d.replayList = [])

/-- Each link timer runs only in the state it belongs to, nothing is owed to the far end outside DISCOVERY and UP, the
transmitter is idle in DOWN and FAULTED, and a link loss stands, with no new training, in FAULTED always and else in DOWN
alone (R56, R115, R116, R120, R121, R129, R130). -/
def LinkTimersSound (s : State) : Prop :=
  (s.link.trainDue = true ∨ s.link.trainingInterval.isSome = true → s.link.state = .training)
    ∧ (s.link.discoveryTimer.isSome = true ↔ s.link.state = .discovery)
    ∧ (s.link.restartTimer.isSome = true ↔ s.link.state = .faulted ∧ s.link.autoRestart = true)
    ∧ (s.link.state ≠ .discovery → s.link.state ≠ .up → s.link.recv = {})
    ∧ (s.link.state = .down ∨ s.link.state = .faulted → s.link.transmitter = none)
    ∧ (s.link.state = .faulted → s.link.afterLoss = true)
    ∧ (s.link.afterLoss = true → s.link.state = .down ∨ s.link.state = .faulted)

/-! ## Counts and flags -/

/-- Every count and setting lies in the range the spec gives it. -/
def CountsInRange (s : State) : Prop :=
  s.events.protoErrors ≤ 255 ∧ 1 ≤ s.events.threshold ∧ s.events.threshold ≤ 32
    ∧ s.link.rxErrors ≤ 65535 ∧ s.link.replayCount ≤ 65535 ∧ s.link.attempts ≤ 255
    ∧ s.link.recv.ackCount ≤ Config.ackCountLimit ∧ 2 ≤ s.link.replayTimeout ∧ s.link.replayTimeout ≤ 128
    ∧ s.latch.overflow ≤ 255 ∧ (s.latch.record = none → s.latch.overflow = 0)
    ∧ s.staging.payload.length ≤ Config.payloadLimit

/-- While the result queue is empty RESULT is clear and the holdoff timer is stopped (R154). -/
def ResultFlagSound (s : State) : Prop := s.results = [] → s.events.result = false ∧ s.events.holdoffTimer = none

/-! ## Answers -/

/-- A command answers a next state, of which the condition holds. -/
def Answers (o : Host.Outcome State Fault Refusal) (post : State → Prop) : Prop := ∃ t, o = .next t ∧ post t

/-- The whole effect of a command is to set CMD_RESULT (R145). -/
def withResult (r : CmdResult) (s : State) : State := { s with host := { s.host with cmdResult := r } }

/-! ## SUBMIT -/

/-- Table 2.3: each refusal, in order, with whether its check fails for the staged request (R29, R30). -/
def submitTable (s : State) : List (CmdResult × Bool) :=
  let g := s.staging
  let u := s.unit g.unit
  let code := g.kindCode.toNat
  let length := g.length.toNat
  let mark := decide (code = 6)
  let block := decide (code = 3 ∨ code = 4)
  let single := decide (code = 2 ∨ code = 5)
  let required := if single then 1 else if code = 4 then length else 0
  [(.linkNotUp, decide (s.link.state ≠ .up)),
   (.badKind, decide (code = 0 ∨ code = 7)),
   (.noUnit, !u.present),
   (.space, !mark && !u.spaces.getLsbD g.space.code),
   (.align, !mark && decide (g.address.toNat % 4 ≠ 0)),
   (.range, block && decide (g.space = .memory ∧ 2 ^ 32 < g.address.toNat + 4 * length)),
   (.length, block && decide (length = 0 ∨ 64 < length ∨ u.maxBlock < length)),
   (.lanes, single && decide (g.laneMask = 0)),
   (.payload, decide (g.payload.length ≠ required)),
   (.postedKind, g.posted && !decide (code = 2 ∨ code = 4)),
   (.tagFull, decide (∀ t, (s.tag t).state ≠ .free)),
   (.noBuffer, block && decide (freeChunkCount s.store < (length + 15) / 16))]

/-- The refusal of the first check of Table 2.3 that fails; none where every check passes (R29). -/
def firstRefusal (s : State) : Option CmdResult := ((submitTable s).find? (fun row => row.2)).map (fun row => row.1)

/-- A tag is the lowest-numbered one in FREE (R3). -/
def LowestFree (t : Tag) (s : State) : Prop := (s.tag t).state = .free ∧ ∀ x, x < t → (s.tag x).state ≠ .free

/-! ## Completion and departure -/

/-- RESULT and the holdoff timer after one event's appends, from the queue's lengths before and after it (R154). -/
def EventUnit.afterAppends (before after : Nat) (e : EventUnit) : EventUnit :=
  if before < after then
    { e with
      holdoffTimer := if before = 0 ∧ e.holdoff ≠ 0 then some (e.holdoff.toNat * 8) else e.holdoffTimer
      result := e.result || decide (e.threshold ≤ after) }
  else e

/-- The MARKs that a tag's departure from its unit's order list releases: those WAITING that then stand at its front
(R7, R54). -/
def marksReleased (t : Tag) (s : State) : List Tag :=
  ((s.unit (s.tag t).unit).orderList.filter (fun x => x ≠ t)).takeWhile (fun x => (s.tag x).state = .waiting)

/-- A released MARK's record: OK, reason none, executed YES, words delivered 0 (R54). -/
def releasedMark (r : TagRecord) : TagRecord := completedRecord ⟨.ok, none, .yes, 0, false⟩ r

/-- A tag leaves its unit's order list, its record becoming r and its own completion record, if it has one, being
appended; the MARKs it releases complete behind it; it leaves the dispatch queue and the owed-cancel list; RESULT follows;
and nothing else changes (R7, R11, R14, R54, R154). -/
def Departs (t : Tag) (r : TagRecord) (own : List CompletionRecord) (s s' : State) : Prop :=
  let marks := marksReleased t s
  s'.tag t = r
    ∧ (∀ m ∈ marks, s'.tag m = releasedMark (s.tag m))
    ∧ (∀ x, x ≠ t → x ∉ marks → s'.tag x = s.tag x)
    ∧ s'.results = s.results ++ own ++ marks.map (fun m => completionOf m (releasedMark (s.tag m)))
    ∧ (∀ u, s'.unit u = { s.unit u with orderList := (s.unit u).orderList.filter (fun x => x ∉ t :: marks) })
    ∧ s'.dispatchQueue = s.dispatchQueue.filter (fun x => x ≠ t)
    ∧ s'.owedCancels = s.owedCancels.filter (fun x => x ≠ t)
    ∧ s'.events = s.events.afterAppends s.results.length s'.results.length
    ∧ s' = { s with
      tags := s'.tags, results := s'.results, units := s'.units, dispatchQueue := s'.dispatchQueue
      owedCancels := s'.owedCancels, events := s'.events }

/-- A non-posted tag completes with these values, and the MARKs it releases complete behind it (R7). -/
def Completes (t : Tag) (e : Ending) (s s' : State) : Prop :=
  Departs t (completedRecord e (s.tag t)) [completionOf t (completedRecord e (s.tag t))] s s'

/-- A tag becomes FREE: its record blank, its chunks back in the free pool (R2, R14, R39). -/
def Frees (t : Tag) (s s' : State) : Prop :=
  Departs t {} [] { s with store := putChunks (s.tag t).chunkList s.store } s'

/-- A posted tag becomes ORPHANED: its unit kept for matching, its chunks back in the free pool (R13, R14). The fields that
are not consulted in ORPHANED are left open. -/
def Orphans (t : Tag) (s s' : State) : Prop :=
  (s'.tag t).state = .orphaned ∧ (s'.tag t).unit = (s.tag t).unit ∧ (s'.tag t).chunkList = []
    ∧ Departs t (s'.tag t) [] { s with store := putChunks (s.tag t).chunkList s.store } s'

/-- The state after one credit has returned to a unit (R67). -/
def creditReturned (u : UnitNo) (s : State) : State := updUnit u (fun v => { v with outstanding := v.outstanding - 1 }) s

/-! ## The posted failure latch -/

/-- The latch after one report: filled if empty, else its overflow count risen, stopping at 255 (R83). -/
def PostedLatch.report (f : PostedFailure) (l : PostedLatch) : PostedLatch :=
  match l.record with
  | none => { l with record := some f }
  | some _ => { l with overflow := if l.overflow < 255 then l.overflow + 1 else l.overflow }

/-- The state after a posted failure report for a tag, POSTED being set (R83). -/
def reported (t : Tag) (reason : PostedReason) (s : State) : State :=
  { s with
    latch := s.latch.report ⟨t, (s.tag t).unit, (s.tag t).address, reason⟩
    events := { s.events with posted := true } }

/-! ## Teardown -/

/-- A tag's record after the settlement of link loss or UNIT-GONE (R17, R18). -/
def settledRecord (outcome : TxOutcome) (r : TagRecord) : TagRecord :=
  match r.state with
  | .free => r
  | .orphaned => {}
  | .complete => { r with farReplyPending := false }
  | .queued | .waiting => if r.posted then {} else completedRecord ⟨outcome, none, .no, 0, false⟩ r
  | .sent | .receiving | .cancelling | .posted =>
    if r.posted then {} else completedRecord ⟨outcome, none, .unknown, 0, false⟩ r

/-- The chosen tags are settled in ascending tag number: their records, the completion records appended, the posted
failure reports made, and the chunks returned (R17, R18, R39, R83). -/
def Settles (outcome : TxOutcome) (reason : PostedReason) (chosen : Tag → Bool) (s s' : State) : Prop :=
  let live := allTags.filter (fun t => chosen t && (s.tag t).state.inOrderList)
  let ended := live.filter (fun t => !(s.tag t).posted)
  let failed := live.filter (fun t => (s.tag t).posted)
  let freed := allTags.filter (fun t => chosen t && ((s.tag t).state = .orphaned || failed.contains t))
  (∀ t, s'.tag t = if chosen t then settledRecord outcome (s.tag t) else s.tag t)
    ∧ s'.results = s.results ++ ended.map (fun t => completionOf t (settledRecord outcome (s.tag t)))
    ∧ s'.latch = failed.foldl (fun l t => l.report ⟨t, (s.tag t).unit, (s.tag t).address, reason⟩) s.latch
    ∧ s'.store.chunks = s.store.chunks
    ∧ (∀ c, s'.store.free.get c = (s.store.free.get c || freed.any (fun t => (s.tag t).chunkList.contains c)))
    ∧ s'.events.posted = (s.events.posted || !failed.isEmpty)

/-- Link loss, every block's part of it: the tag table, the dispatcher's lists, the latch, the unit directory, the attention
block and the link controller; and nothing else changes (R17, R62, R85, R96, R110, R129). -/
def LinkLost (reason : LossReason) (target : LinkState) (s s' : State) : Prop :=
  Settles .linkLost .linkLost (fun _ => true) s s'
    ∧ s'.dispatchQueue = []
    ∧ s'.owedCancels = []
    ∧ (∀ u, s'.unit u =
      { replyTimeout := (s.unit u).replyTimeout, masked := (s.unit u).masked
        held := (s.unit u).held.map (fun a => { a with ackDue := false }) })
    ∧ s'.attnQueue = s.attnQueue.map (fun r => { r with attn := { r.attn with ackDue := false } })
    ∧ s'.link = { s.link with
      state := target, lastLoss := reason, afterLoss := true, send := {}, recv := {}, discoveryTimer := none, transmitter := none
      restartTimer := if target = .faulted ∧ s.link.autoRestart = true then some 1000 else none }
    ∧ s'.events = EventUnit.afterAppends s.results.length s'.results.length { s.events with
      link := true, unit := s.events.unit || allUnits.any (fun u => (s.unit u).present), posted := s'.events.posted }
    ∧ s' = { s with
      tags := s'.tags, results := s'.results, latch := s'.latch, store := s'.store, dispatchQueue := []
      owedCancels := [], units := s'.units, attnQueue := s'.attnQueue, link := s'.link, events := s'.events }

/-! ## Frames received -/

/-- The link controller is in DISCOVERY or UP, where message frames are delivered (Table 8.1). -/
def InSession (s : State) : Prop := s.link.state = .discovery ∨ s.link.state = .up

/-- The oldest unacknowledged number: that of the replay list's head, or the next send number where the list is empty
(R122). -/
def oldestUnacknowledged (d : SendSide) : SeqNo := (d.replayList.head?.map SentFrame.seq).getD d.next

/-- An acknowledge number lies in the window (R123). -/
def InWindow (d : SendSide) (n : SeqNo) : Prop :=
  (n - oldestUnacknowledged d).toNat ≤ (d.next - oldestUnacknowledged d).toNat

/-- RX_ERRORS rises by one, stopping at 65535 (R132). -/
def rxErrorCounted (s : State) : State :=
  { s with link := { s.link with rxErrors := if s.link.rxErrors < 65535 then s.link.rxErrors + 1 else s.link.rxErrors } }

/-- A NAK is owed for the expected number, unless one has been made for it (R121). -/
def nakAsked (v : ReceiveSide) : ReceiveSide := if v.nakMade = true then v else { v with nakOwed := true, nakMade := true }

/-- The receive side after the delivery of one frame (R118, R120). -/
def frameDelivered (v : ReceiveSide) : ReceiveSide :=
  { v with
    expected := v.expected + 1
    nakMade := false
    ackCount := if v.ackCount < 31 then v.ackCount + 1 else v.ackCount
    ackOwed := v.ackOwed || decide (v.ackCount = 3)
    ackDelayTimer := if v.ackCount = 0 then some 20 else v.ackDelayTimer }

/-- The state after the delivery of one frame, before its message is handled. -/
def delivered (s : State) : State := { s with link := { s.link with recv := frameDelivered s.link.recv } }

/-- One protocol error counted, PROTO_ERRORS stopping at 255, with PROTO set (R155). -/
def protoErrorCounted (s : State) : State :=
  { s with
    events := { s.events with
      protoErrors := if s.events.protoErrors < 255 then s.events.protoErrors + 1 else s.events.protoErrors
      proto := true } }

/-- The header of a command that is a MESSAGE frame. -/
def messageHeader : Instr → Option MsgHeader
  | .messageOutOfSequence h _ | .replyData h _ _ _ _ _ _ _ | .replyDone h _ _ | .replyRefuse h _ _ _
  | .unitReport h _ _ _ _ _ | .reportEnd h | .unitGone h _ | .attention h _ _ _ | .undefinedMessage h _ => some h
  | _ => none

/-- Whether a MESSAGE row carries a reply (Table 9.6). -/
def carriesReply : Instr → Bool
  | .replyData _ _ _ _ _ _ _ _ | .replyDone _ _ _ | .replyRefuse _ _ _ _ => true
  | .messageOutOfSequence _ body | .undefinedMessage _ body => (parseMessage body).isReply
  | _ => false

/-- A reply of the old link: the link was lost, no new training has followed, and a reply of the epoch comes in (R85, log
entry 16). -/
def replyAfterLoss (c : Instr) (s : State) : Bool :=
  carriesReply c && s.link.afterLoss && decide ((messageHeader c).map MsgHeader.epoch = some s.link.epoch)

/-- A MESSAGE frame is delivered: the part is out of reset, the link is in DISCOVERY or UP, and the frame has the current
epoch and the expected number (R117, R118). -/
def InOrder (h : MsgHeader) (s : State) : Prop :=
  s.resetAsserted = false ∧ InSession s ∧ h.epoch = s.link.epoch ∧ h.seq = s.link.recv.expected

/-- A well-formed reply naming this tag and unit is matched (R65). -/
def Matched (t : Tag) (u : UnitNo) (s : State) : Prop :=
  (s.unit u).present = true ∧ (s.tag t).unit = u
    ∧ ((s.tag t).state = .sent ∨ (s.tag t).state = .receiving ∨ (s.tag t).state = .cancelling
      ∨ (s.tag t).state = .posted ∨ ((s.tag t).state = .complete ∧ (s.tag t).farReplyPending = true)
      ∨ (s.tag t).state = .orphaned)

/-- A matched tag is still to be answered, its reply being checked under R68 (Table 5.1). -/
def Answerable (t : Tag) (u : UnitNo) (s : State) : Prop :=
  (s.unit u).present = true ∧ (s.tag t).unit = u
    ∧ ((s.tag t).state = .sent ∨ (s.tag t).state = .receiving ∨ (s.tag t).state = .cancelling ∨ (s.tag t).state = .posted)

/-- A delivered message that its owner discards as a protocol error: an ill-formed or unmatched reply, a refused report, a
REPORT-END in UP, a UNIT-GONE for an ABSENT unit, an ATTENTION in DISCOVERY or for an ABSENT unit, and a body that is no
inbound message (R64, R66, R89, R92, R95, R102, R119, R139). -/
def DiscardedAsError (c : Instr) (s : State) : Prop :=
  match c with
  | .replyData _ t u final short _ count words =>
    count.toNat = 0 ∨ 16 < count.toNat ∨ words.length ≠ count.toNat ∨ (short = true ∧ final = false) ∨ ¬ Matched t u s
  | .replyDone _ t u => ¬ Matched t u s
  | .replyRefuse _ t u reason => reason.toNat = 0 ∨ 6 < reason.toNat ∨ ¬ Matched t u s
  | .unitReport _ u _ _ limit maxBlock =>
    (s.unit u).present = true ∨ limit.toNat = 0 ∨ 8 < limit.toNat ∨ maxBlock.toNat = 0 ∨ 64 < maxBlock.toNat
  | .reportEnd _ => s.link.state = .up
  | .unitGone _ u => (s.unit u).present = false
  | .attention _ u _ _ => s.link.state = .discovery ∨ (s.unit u).present = false
  | .undefinedMessage _ body => bodyDefined body = false
  | _ => False

/-! ## Who sends a command, and the moves of the tables -/

/-- The commands that the host makes: a write to CMD, or another access (Agents). -/
def fromHost : Instr → Bool
  | .submit _ | .cancel _ | .popResult _ | .release _ | .select _ | .popAttention _ | .clearStaging _ | .clearPosted _
  | .linkStart _ | .linkStop _ | .softReset _ | .badCode _ _ | .stgDataHWrite _ | .stgDataLWrite _ | .rdDataHRead
  | .rdDataLRead | .unitMaskWrite _ | .linkCtrlWrite _ | .eventsWrite _ | .eventEnWrite _ | .resultCoalesceWrite _
  | .linkCounterWrite _ _ | .protoErrorsWrite _ | .unusedOffsetAccess _ _ | .registerWrite _ _ => true
  | _ => false

/-- The two resets (Section 10.3). -/
def isReset : Instr → Bool
  | .softReset _ | .resetN _ => true
  | _ => false

/-- Table 8.2: the changes of link state that a command can make, from and to. A frame given as its bytes can make those of
every frame. -/
def linkMoves : Instr → List (LinkState × LinkState)
  | .linkStart _ => [(.down, .training), (.faulted, .training)]
  | .train _ => [(.down, .training), (.faulted, .training), (.discovery, .faulted), (.up, .faulted)]
  | .restartTimerExpiry => [(.faulted, .training)]
  | .trainAck _ => [(.training, .discovery)]
  | .trainingIntervalEnd => [(.training, .down)]
  | .linkStop _ => [(.training, .down), (.faulted, .down), (.discovery, .down), (.up, .down)]
  | .reportEnd _ | .messageOutOfSequence _ _ => [(.discovery, .up)]
  | .discoveryTimerExpiry => [(.discovery, .faulted)]
  | .nak _ _ | .replayTimerExpiry | .lossOfSignal => [(.discovery, .faulted), (.up, .faulted)]
  | .frameCheckFailure _ =>
    [(.down, .training), (.faulted, .training), (.discovery, .faulted), (.up, .faulted), (.training, .discovery),
     (.discovery, .up)]
  | .softReset _ | .resetN _ =>
    [(.training, .down), (.faulted, .down), (.discovery, .down), (.up, .down)]
  | _ => []

/-- Table 1.3: the changes of a tag's state, from and to, the resets apart. -/
def tagMoves : List (TagState × TagState) :=
  [(.free, .queued), (.free, .waiting), (.free, .complete), (.queued, .sent), (.queued, .posted), (.queued, .complete),
   (.queued, .free), (.waiting, .complete), (.sent, .receiving), (.sent, .complete), (.sent, .cancelling),
   (.receiving, .complete), (.receiving, .cancelling), (.posted, .cancelling), (.posted, .free), (.posted, .orphaned),
   (.cancelling, .complete), (.cancelling, .free), (.cancelling, .orphaned), (.complete, .free), (.complete, .orphaned),
   (.orphaned, .free)]

end Sys2Proof.Machine
end

