-- ==== Sys2Proof/Certificates/Slice0/Obligations.lean ====
section
/-! DEFINITION. The statements for the provers. A state is any state, reachable or not; where a statement needs a condition
that holds at every instant of the part, it names the condition (Safety.lean), and InvariantsHoldAtReset and the statements
Kept… say that it does. -/

open Sys2Proof Sys2Proof.Machine

/-! ## The machine as a whole -/

/-- A step takes the command at the front of the queue; with none waiting the part idles (log entry 4). -/
def Obligations.StepTakesFrontCommand : Prop :=
  ∀ (s : State) (c : Instr) (rest : List Instr),
    step { s with pending := c :: rest } = exec c { s with pending := rest }
      ∧ step { s with pending := [] } = .next { s with pending := [] }

/-- Every command proceeds, in every state and whatever its operands: none faults and none is refused by the model. The
waiting commands play no part in its effect and are as they were. -/
def Obligations.CommandsProceedWhateverWaits : Prop :=
  ∀ (s : State) (c : Instr) (waiting : List Instr),
    Answers (exec c s) (fun t =>
      t.pending = s.pending ∧ exec c { s with pending := waiting } = .next { t with pending := waiting })

/-- R147: RESET_N puts the part at its power-on values; while it is asserted a read returns 0, INT_N is released and no
other command has an effect; released, the part begins from the values it holds. That readData is 0 at reset is the model's
choice (log entry 1), and so is takeHostRead, beside the steps, as the event of a read (log entry 13). -/
def Obligations.ResetPinHoldsPart : Prop :=
  ∀ (s : State) (c : Instr) (n : Fin 64) (place : Fin 25),
    exec (.resetN true) s = .next { State.reset with pending := s.pending, resetAsserted := true }
      ∧ exec (.resetN false) s = .next { s with resetAsserted := false }
      ∧ (s.resetAsserted = true →
        readOffset n s = 0 ∧ intAsserted s = false
          ∧ ((∀ b, c ≠ .resetN b) →
            Answers (exec c s) (fun t => { t with host := { t.host with readData := s.host.readData } } = s))
          ∧ exec .rdDataHRead s = .next { s with host := { s.host with readData := 0 } }
          ∧ exec .rdDataLRead s = .next { s with host := { s.host with readData := 0 } }
          ∧ exec (.unusedOffsetAccess place .read) s = .next { s with host := { s.host with readData := 0 } }
          ∧ takeHostRead n s = .next { s with host := { s.host with readData := 0 } })

/-- Table 8.2, R112, R113: whatever the command, the link state changes only along the table; a change that is not a
reset's sets LINK; and the epoch rises by one, modulo 16, at an entry to TRAINING and changes at nothing else but power-on
reset. A frame given as its bytes can make the changes of every frame (log entry 7). -/
def Obligations.LinkStateFollowsTable : Prop :=
  ∀ (s : State) (c : Instr), c.wellFormed = true →
    Answers (exec c s) (fun t =>
      (t.link.state = s.link.state ∨ (s.link.state, t.link.state) ∈ linkMoves c)
        ∧ (t.link.state ≠ s.link.state → isReset c = false → t.events.link = true)
        ∧ (c ≠ .resetN true →
          t.link.epoch = if t.link.state = .training ∧ s.link.state ≠ .training then s.link.epoch + 1 else s.link.epoch))

/-- Table 1.3: whatever the command, each tag keeps its state or makes one of the table's moves, and a reset makes it
FREE. -/
def Obligations.TagStatesFollowTable : Prop :=
  ∀ (s : State) (c : Instr) (x : Tag), c.wellFormed = true → StatesSound s →
    Answers (exec c s) (fun t =>
      (t.tag x).state = (s.tag x).state ∨ ((s.tag x).state, (t.tag x).state) ∈ tagMoves
        ∨ (isReset c = true ∧ (t.tag x).state = .free))

/-- R21, R45: while a tag stays in COMPLETE its record does not change but for popped and far-reply-pending, nor does any
word of its data; and records in the result queue are neither altered nor reordered: an event appends behind them,
POP_RESULT removes the head, a reset empties the queue. -/
def Obligations.CompletedTagsStandStill : Prop :=
  ∀ (s : State) (c : Instr) (x : Tag), c.wellFormed = true → ListsExact s → ChunksAccounted s →
    Answers (exec c s) (fun t =>
      ((s.tag x).state = .complete → (t.tag x).state = .complete →
        t.tag x = { s.tag x with popped := (t.tag x).popped, farReplyPending := (t.tag x).farReplyPending }
          ∧ ∀ k ∈ (s.tag x).chunkList, t.store.chunks.get k = s.store.chunks.get k)
        ∧ (s.results <+: t.results ∨ ((∃ operand, c = .popResult operand) ∧ t.results = s.results.tail)
          ∨ (isReset c = true ∧ t.results = [])))

/-- R22, R145, R150: what the far end sends, a timer's expiry and a take of the transmitter leave the staging record, the
host port's state, the settings and enables, and every unit's reply timeout and mask as they are. -/
def Obligations.FarEventsLeaveHostState : Prop :=
  ∀ (s : State) (c : Instr), fromHost c = false → isReset c = false →
    Answers (exec c s) (fun t =>
      t.staging = s.staging ∧ t.host = s.host
        ∧ t.link.autoRestart = s.link.autoRestart ∧ t.link.trainingLimit = s.link.trainingLimit
        ∧ t.link.replayTimeout = s.link.replayTimeout
        ∧ t.events.enables = s.events.enables ∧ t.events.threshold = s.events.threshold
        ∧ t.events.holdoff = s.events.holdoff
        ∧ ∀ u, (t.unit u).replyTimeout = (s.unit u).replyTimeout ∧ (t.unit u).masked = (s.unit u).masked)

/-! ## The command register -/

/-- R144, Tables 9.8 and 10.2: a write to CMD, at offset 0x02, is the command of the code in its high byte, with the operand
in its low byte, for each of the eleven codes; a code of no command is refused BAD_CODE; CANCEL, RELEASE and SELECT of an operand above 31 are refused BAD_TAG; and a refused command changes CMD_RESULT
alone, but for the valid flag that POP_RESULT or POP_ATTENTION clears on an empty queue. -/
def Obligations.RefusedCommandsChangeResultOnly : Prop :=
  ∀ (s : State) (code operand : Byte), s.resetAsserted = false →
    decodeHostWrite 1 (code ++ operand) = decodeCommand (code ++ operand)
      ∧ decodeCommand (0x01#8 ++ operand) = .submit operand ∧ decodeCommand (0x02#8 ++ operand) = .cancel operand
      ∧ decodeCommand (0x03#8 ++ operand) = .popResult operand ∧ decodeCommand (0x04#8 ++ operand) = .release operand
      ∧ decodeCommand (0x05#8 ++ operand) = .select operand ∧ decodeCommand (0x06#8 ++ operand) = .popAttention operand
      ∧ decodeCommand (0x07#8 ++ operand) = .clearStaging operand ∧ decodeCommand (0x08#8 ++ operand) = .clearPosted operand
      ∧ decodeCommand (0x09#8 ++ operand) = .linkStart operand ∧ decodeCommand (0x0A#8 ++ operand) = .linkStop operand
      ∧ decodeCommand (0x0F#8 ++ operand) = .softReset operand
      ∧ (code ∉ [0x01#8, 0x02#8, 0x03#8, 0x04#8, 0x05#8, 0x06#8, 0x07#8, 0x08#8, 0x09#8, 0x0A#8, 0x0F#8] →
      decodeCommand (code ++ operand) = .badCode code operand
        ∧ exec (.badCode code operand) s = .next (withResult .badCode s))
      ∧ (32 ≤ operand.toNat →
        exec (.cancel operand) s = .next (withResult .badTag s)
          ∧ exec (.release operand) s = .next (withResult .badTag s)
          ∧ exec (.select operand) s = .next (withResult .badTag s))
      ∧ Answers (exec (decodeCommand (code ++ operand)) s) (fun t =>
        t.host.cmdResult ≠ .done →
          t = { s with host := { s.host with
                cmdResult := t.host.cmdResult, resultView := t.host.resultView, attnView := t.host.attnView } }
            ∧ (t.host.resultView = s.host.resultView
              ∨ (code = 0x03#8 ∧ s.results = [] ∧ t.host.resultView = { s.host.resultView with valid := false }))
            ∧ (t.host.attnView = s.host.attnView
              ∨ (code = 0x06#8 ∧ s.attnQueue = [] ∧ t.host.attnView = { s.host.attnView with valid := false })))

/-- R29, R30: a SUBMIT whose staged request fails a check of Table 2.3 is refused with the first that fails, and changes
nothing but CMD_RESULT. -/
def Obligations.SubmitReportsFirstFailingCheck : Prop :=
  ∀ (s : State) (operand : Byte) (r : CmdResult), s.resetAsserted = false → firstRefusal s = some r →
    exec (.submit operand) s = .next (withResult r s)

/-- R3, R28, R31 to R34, R38, R40: a SUBMIT that passes every check, for every kind but MARK, assigns the lowest-numbered
FREE tag, fills its record from the staging record as Table 2.2 gives, reserves the lowest-numbered free chunks, copies the
payload, appends the tag to the dispatch queue and its unit's order list, empties the payload and shows the tag in
LAST_TAG; nothing else changes. -/
def Obligations.SubmitAcceptsRequest : Prop :=
  ∀ (s : State) (operand : Byte) (k : Kind) (t : Tag),
    s.resetAsserted = false → kindOfCode s.staging.kindCode = some k → k ≠ .mark → LowestFree t s → firstRefusal s = none →
    let g := s.staging
    let block := k = .readBlock ∨ k = .writeBlock
    let single := k = .write ∨ k = .exchange
    let chunks := (freeChunks s.store).take (if block then (g.length.toNat + 15) / 16 else 0)
    let record : TagRecord :=
      { state := .queued, kind := k, unit := g.unit, space := g.space, address := g.address
        length := if block then g.length.toNat else 1
        laneMask := if single then g.laneMask else 0
        posted := g.posted
        slot := if single then g.payload.headD 0 else 0
        chunkList := chunks }
    exec (.submit operand) s = .next
      { updUnit g.unit (fun v => { v with orderList := v.orderList ++ [t] }) (updTag t (fun _ => record) s) with
        store :=
          if k = .writeBlock then writePlaces chunks 0 g.payload (takeChunks chunks s.store)
          else takeChunks chunks s.store
        dispatchQueue := s.dispatchQueue ++ [t]
        lastTag := t
        staging := { g with payload := [] }
        host := { s.host with cmdResult := .done } }

/-- R3, R34: a MARK that passes every check enters WAITING at the tail of its unit's order list, or, where that list is
empty, completes OK at once, its record in the result queue when SUBMIT finishes. -/
def Obligations.SubmitAcceptsMark : Prop :=
  ∀ (s : State) (operand : Byte) (t : Tag),
    s.resetAsserted = false → kindOfCode s.staging.kindCode = some .mark → LowestFree t s → firstRefusal s = none →
    ListsExact s →
    let u := s.staging.unit
    let record : TagRecord := { state := .waiting, kind := .mark, unit := u }
    let done := { s with
      lastTag := t, staging := { s.staging with payload := [] }, host := { s.host with cmdResult := .done } }
    if (s.unit u).orderList = [] then
      exec (.submit operand) s = .next
        { updTag t (fun _ => { record with state := .complete, executed := .yes }) done with
          results := s.results ++ [⟨t, .mark, u, .ok, none, .yes, false, 0⟩]
          events := s.events.afterAppends s.results.length (s.results.length + 1) }
    else
      exec (.submit operand) s = .next
        (updUnit u (fun v => { v with orderList := v.orderList ++ [t] }) (updTag t (fun _ => record) done))

/-- R6, R16, Table 1.6: CANCEL by the state of the tag. -/
def Obligations.CancelFollowsTagState : Prop :=
  ∀ (s : State) (operand : Byte) (t : Tag), s.resetAsserted = false → operand.toNat = t.val → ListsExact s →
    let done := withResult .done s
    ((s.tag t).posted = true ∨ (s.tag t).state = .free ∨ (s.tag t).state = .posted ∨ (s.tag t).state = .complete
        ∨ (s.tag t).state = .orphaned →
      exec (.cancel operand) s = .next (withResult .wrongState s))
      ∧ ((s.tag t).posted = false → (s.tag t).state = .queued ∨ (s.tag t).state = .waiting →
        Answers (exec (.cancel operand) s)
          (Completes t ⟨.cancelled, none, .no, 0, false⟩ (updTag t (fun r => { r with cancelRequested := true }) done)))
      ∧ ((s.tag t).posted = false → (s.tag t).state = .sent ∨ (s.tag t).state = .receiving →
        exec (.cancel operand) s = .next
          { updTag t (fun r => { r with
              state := .cancelling, cancelCause := .host, cancelPending := true, cancelRequested := true
              timer := .idle }) done with
            owedCancels := s.owedCancels ++ [t] })
      ∧ ((s.tag t).posted = false → (s.tag t).state = .cancelling →
        exec (.cancel operand) s = .next (updTag t (fun r => { r with cancelRequested := true }) done))

/-- R12, R154: POP_RESULT moves the head record into the result view and marks its tag popped; the pop that empties the
queue clears RESULT and stops the holdoff timer; on an empty queue it is refused EMPTY and clears the valid flag. -/
def Obligations.PopResultMovesHead : Prop :=
  ∀ (s : State) (operand : Byte), s.resetAsserted = false →
    (s.results = [] →
      exec (.popResult operand) s = .next
        { s with host := { s.host with cmdResult := .empty, resultView := { s.host.resultView with valid := false } } })
      ∧ ∀ c rest, s.results = c :: rest →
        exec (.popResult operand) s = .next
          { updTag c.tag (fun r => { r with popped := true }) s with
            results := rest
            host := { s.host with cmdResult := .done, resultView := ⟨true, some c⟩ }
            events := if rest = [] then { s.events with result := false, holdoffTimer := none } else s.events }

/-- R13, R39, R45: RELEASE by the state of the tag: taken in COMPLETE with popped yes, when the tag becomes FREE, or
ORPHANED if a final reply is still owed, its chunks return and a selection of it is cleared; else refused. The fields that
an ORPHANED tag keeps beside its state and unit are left open. -/
def Obligations.ReleaseFreesOrOrphans : Prop :=
  ∀ (s : State) (operand : Byte) (t : Tag), s.resetAsserted = false → operand.toNat = t.val → ListsExact s →
    ((s.tag t).state ≠ .complete → exec (.release operand) s = .next (withResult .wrongState s))
      ∧ ((s.tag t).state = .complete → (s.tag t).popped = false →
        exec (.release operand) s = .next (withResult .notPopped s))
      ∧ ((s.tag t).state = .complete → (s.tag t).popped = true →
        Answers (exec (.release operand) s) (fun t' =>
          (if (s.tag t).farReplyPending = true then
            (t'.tag t).state = .orphaned ∧ (t'.tag t).unit = (s.tag t).unit ∧ (t'.tag t).chunkList = []
          else t'.tag t = {})
            ∧ t' = { updTag t (fun _ => t'.tag t) s with
              store := putChunks (s.tag t).chunkList s.store
              host :=
                if s.host.selected = some t then
                  { s.host with cmdResult := .done, selected := none, readPointer := 0, readLimit := 0 }
                else { s.host with cmdResult := .done } }))

/-! ## The data ports, the pops and the clears -/

/-- R42 to R44: SELECT of a COMPLETE tag sets the selection, the read pointer 0 and the read limit the tag's words delivered;
of any other it is refused WRONG_STATE. With a tag selected and the pointer below the limit, RD_DATA_H returns the high half
and RD_DATA_L the low half of the word at the pointer, found at its place for a block kind and in the slot for another, and
RD_DATA_L advances the pointer; else either returns 0 and sets ACCESS. -/
def Obligations.SelectedDataIsRead : Prop :=
  ∀ (s : State) (operand : Byte) (t : Tag), s.resetAsserted = false → operand.toNat = t.val →
    ((s.tag t).state = .complete →
      exec (.select operand) s = .next
        { s with host := { s.host with
          cmdResult := .done, selected := some t, readPointer := 0, readLimit := (s.tag t).wordsDelivered } })
      ∧ ((s.tag t).state ≠ .complete → exec (.select operand) s = .next (withResult .wrongState s))
      ∧ (∀ x, s.host.selected = some x → s.host.readPointer < s.host.readLimit →
        let w :=
          if (s.tag x).kind = .readBlock ∨ (s.tag x).kind = .writeBlock then
            readPlace (s.tag x).chunkList s.host.readPointer s.store
          else (s.tag x).slot
        exec .rdDataHRead s = .next { s with host := { s.host with readData := highHalf w } }
          ∧ exec .rdDataLRead s = .next
            { s with host := { s.host with readData := lowHalf w, readPointer := s.host.readPointer + 1 } })
      ∧ (s.host.selected = none ∨ s.host.readLimit ≤ s.host.readPointer →
        exec .rdDataHRead s = .next
            { s with host := { s.host with readData := 0 }, events := { s.events with access := true } }
          ∧ exec .rdDataLRead s = .next
            { s with host := { s.host with readData := 0 }, events := { s.events with access := true } })

/-- R107, R108: POP_ATTENTION moves the head record into the attention view and, where its ack due is yes and its unit is
PRESENT, sets the unit's ack owed with the record's last number; on an empty queue it is refused EMPTY and clears the valid
flag. -/
def Obligations.PopAttentionMovesHead : Prop :=
  ∀ (s : State) (operand : Byte), s.resetAsserted = false →
    (s.attnQueue = [] →
      exec (.popAttention operand) s = .next
        { s with host := { s.host with cmdResult := .empty, attnView := { s.host.attnView with valid := false } } })
      ∧ ∀ r rest, s.attnQueue = r :: rest →
        let popped := { s with
          attnQueue := rest
          host := { s.host with cmdResult := .done, attnView := ⟨true, r.unit, r.attn.count, r.attn.cause⟩ } }
        exec (.popAttention operand) s = .next
          (if r.attn.ackDue = true ∧ (s.unit r.unit).present = true then
            updUnit r.unit (fun v => { v with ackOwed := some r.attn.last }) popped
          else popped)

/-- R27, R84, R132, R155: CLEAR_STAGING empties the payload and the high-half latch, so that STG_COUNT reads 0; CLEAR_POSTED
empties the posted failure latch with its count; a write of any value to RX_ERRORS, REPLAY_COUNT or PROTO_ERRORS sets that
count to 0; each is taken in every state and changes nothing else. -/
def Obligations.ClearsEmptyWhatTheyName : Prop :=
  ∀ (s : State) (operand : Byte) (value : Halfword), s.resetAsserted = false →
    Answers (exec (.clearStaging operand) s) (fun t =>
      t = { s with
          staging := { s.staging with payload := [] }
          host := { s.host with cmdResult := .done, highLatch := 0 } }
        ∧ readRegister .stgCount t = 0)
      ∧ Answers (exec (.clearPosted operand) s) (fun t =>
        t = { s with latch := { record := none, overflow := 0 }, host := { s.host with cmdResult := .done } }
          ∧ readRegister .postedFailA t = 0 ∧ readRegister .postedFailAddrH t = 0
          ∧ readRegister .postedFailAddrL t = 0 ∧ readRegister .postedOverflow t = 0)
      ∧ exec (.linkCounterWrite .rxErrors value) s = .next { s with link := { s.link with rxErrors := 0 } }
      ∧ exec (.linkCounterWrite .replayCount value) s = .next { s with link := { s.link with replayCount := 0 } }
      ∧ exec (.protoErrorsWrite value) s = .next { s with events := { s.events with protoErrors := 0 } }

/-- R148, Table 10.4: SOFT_RESET returns the part to its power-on values but for the settings, the enables, the epoch and
each unit's reply timeout and mask. The halfword the host last read is no state of the part, and is left open. -/
def Obligations.SoftResetKeepsSettings : Prop :=
  ∀ (s : State) (operand : Byte), s.resetAsserted = false →
    Answers (exec (.softReset operand) s) (fun t =>
      (∀ u, t.unit u = { replyTimeout := (s.unit u).replyTimeout, masked := (s.unit u).masked })
        ∧ t = { State.reset with
          pending := s.pending
          units := t.units
          host := { readData := t.host.readData }
          link := { epoch := s.link.epoch, autoRestart := s.link.autoRestart, trainingLimit := s.link.trainingLimit
                    replayTimeout := s.link.replayTimeout }
          events := { enables := s.events.enables, threshold := s.events.threshold, holdoff := s.events.holdoff } })

/-! ## Register writes -/

/-- R24, R25: a write to STG_DATA_H stores the latch; a write to STG_DATA_L appends a word of the latch and the written
half, or, with 64 words held, is ignored and sets ACCESS; each reads back as the rules say, and nothing else changes. -/
def Obligations.StagingPortsBuildPayload : Prop :=
  ∀ (s : State) (value : Halfword), s.resetAsserted = false →
    Answers (exec (.stgDataHWrite value) s) (fun t =>
      t = { s with host := { s.host with highLatch := value } } ∧ readRegister .stgDataH t = value)
      ∧ (s.staging.payload.length < 64 →
        Answers (exec (.stgDataLWrite value) s) (fun t =>
          t = { s with staging := { s.staging with
                payload := s.staging.payload ++ [(s.host.highLatch ++ value : BitVec 32)] } }
            ∧ readRegister .stgDataL t = value
            ∧ readRegister .stgCount t = BitVec.ofNat 16 (s.staging.payload.length + 1)))
      ∧ (64 ≤ s.staging.payload.length →
        exec (.stgDataLWrite value) s = .next { s with events := { s.events with access := true } })

/-- R22, R23, R98, R99, R130, R133, R140: a write to a staging register, UNIT_SEL, UNIT_TIMEOUT, LINK_TIMING or LINK_CTRL
stores the fields at their places, reads back with the reserved bits 0 and the replay timeout bounded to 2 to 128, and
changes nothing else, but for the restart timer, which starts where auto-restart becomes enabled in FAULTED and stops where
it is disabled. -/
def Obligations.RegisterWritesStoreFields : Prop :=
  ∀ (s : State) (value : Halfword), s.resetAsserted = false →
    Answers (exec (.registerWrite .stgCmd value) s) (fun t =>
      t = { s with staging := { s.staging with
            posted := value.getLsbD 15, unit := (value.extractLsb' 8 4).toFin
            space := spaceOfCode (value.extractLsb' 4 2), kindCode := value.extractLsb' 0 3 } }
        ∧ readRegister .stgCmd t = value &&& 0x8F37#16)
      ∧ Answers (exec (.registerWrite .stgAddrH value) s) (fun t =>
        t = { s with staging := { s.staging with address := value ++ s.staging.address.extractLsb' 0 16 } }
          ∧ readRegister .stgAddrH t = value ∧ readRegister .stgAddrL t = readRegister .stgAddrL s)
      ∧ Answers (exec (.registerWrite .stgAddrL value) s) (fun t =>
        t = { s with staging := { s.staging with address := s.staging.address.extractLsb' 16 16 ++ value } }
          ∧ readRegister .stgAddrL t = value ∧ readRegister .stgAddrH t = readRegister .stgAddrH s)
      ∧ Answers (exec (.registerWrite .stgLenLanes value) s) (fun t =>
        t = { s with staging := { s.staging with
              laneMask := value.extractLsb' 8 4, length := value.extractLsb' 0 7 } }
          ∧ readRegister .stgLenLanes t = value &&& 0x0F7F#16)
      ∧ Answers (exec (.registerWrite .unitSel value) s) (fun t =>
        t = { s with host := { s.host with unitSel := (value.extractLsb' 0 4).toFin } }
          ∧ readRegister .unitSel t = value &&& 0x000F#16)
      ∧ Answers (exec (.registerWrite .unitTimeout value) s) (fun t =>
        t = updUnit s.host.unitSel (fun v => { v with replyTimeout := value }) s ∧ readRegister .unitTimeout t = value)
      ∧ Answers (exec (.registerWrite .linkTiming value) s) (fun t =>
        let written := value.toNat % 256
        t = { s with link := { s.link with
              replayTimeout := if written < 2 then 2 else if 128 < written then 128 else written } }
          ∧ readRegister .linkTiming t = BitVec.ofNat 16 t.link.replayTimeout)
      ∧ Answers (exec (.linkCtrlWrite value) s) (fun t =>
        t = { s with link := { s.link with
              autoRestart := value.getLsbD 15
              trainingLimit := value.extractLsb' 0 8
              restartTimer :=
                if value.getLsbD 15 = false then none
                else if s.link.autoRestart = false ∧ s.link.state = .faulted then some 1000
                else s.link.restartTimer } }
          ∧ readRegister .linkCtrl t = value &&& 0x80FF#16)

/-- R142, R143: a write to a read-only register, and any access to an unused offset, changes nothing but ACCESS, which it
sets; a read of an unused offset returns 0. -/
def Obligations.IgnoredAccessesSetAccess : Prop :=
  ∀ (s : State) (value : Halfword) (place : Fin 25) (n : Fin 64), s.resetAsserted = false →
    (∀ r ∈ [Reg.id, .cmdResult, .linkState, .stgCount, .lastTag, .resViewA, .resViewB, .resWords, .rdDataH, .rdDataL,
        .attnView, .attnCause, .unitInfo, .unitClass, .unitCaps, .postedFailA, .postedFailAddrH, .postedFailAddrL,
        .postedOverflow, .levelsA, .levelsB],
      exec (.registerWrite r value) s = .next { s with events := { s.events with access := true } })
      ∧ exec (.unusedOffsetAccess place (.write value)) s = .next { s with events := { s.events with access := true } }
      ∧ exec (.unusedOffsetAccess place .read) s = .next
        { s with host := { s.host with readData := 0 }, events := { s.events with access := true } }
      ∧ (39 ≤ n.val → readOffset n s = 0 ∧ ∃ p, decodeHostWrite n value = .unusedOffsetAccess p (.write value))

/-- R100, R105: a write to UNIT_MASK sets the selected unit's mask from bit 0; where it changes the mask from MASKED to
UNMASKED, the held attention merges into the unit's queue record in its place, or is appended as one, and becomes absent. -/
def Obligations.UnitMaskWriteReleasesHeld : Prop :=
  ∀ (s : State) (value : Halfword), s.resetAsserted = false →
    let u := s.host.unitSel
    let masked := value.getLsbD 0
    let written := updUnit u (fun v => { v with masked := masked }) s
    ((s.unit u).masked = false ∨ masked = true ∨ (s.unit u).held = none →
      exec (.unitMaskWrite value) s = .next written)
      ∧ ∀ h, (s.unit u).held = some h → (s.unit u).masked = true → masked = false →
        exec (.unitMaskWrite value) s = .next
          { updUnit u (fun v => { v with held := none }) written with
            attnQueue :=
              if ∃ r ∈ s.attnQueue, r.unit = u then
                s.attnQueue.map (fun r =>
                  if r.unit = u then
                    ⟨u, r.attn.cause ||| h.cause, min 255 (r.attn.count + h.count), h.last, r.attn.ackDue || h.ackDue⟩
                  else r)
              else s.attnQueue ++ [⟨u, h⟩] }

/-- R151, R152: a write to EVENTS clears each sticky flag whose bit is written as 1 and nothing else; a write to EVENT_EN
stores the seven enables; and INT_N is asserted exactly while the part is out of reset and some flag is set whose enable
is set, ATTN being set exactly while the attention queue holds a record. -/
def Obligations.EventWritesDriveInterruptLine : Prop :=
  ∀ (s : State) (value : Halfword), s.resetAsserted = false →
    Answers (exec (.eventsWrite value) s) (fun t =>
      t = { s with events := { s.events with
            link := s.events.link && !value.getLsbD 2, unit := s.events.unit && !value.getLsbD 3
            posted := s.events.posted && !value.getLsbD 4, proto := s.events.proto && !value.getLsbD 5
            access := s.events.access && !value.getLsbD 6 } }
        ∧ readRegister .events t = readRegister .events s &&& ~~~(value &&& 0x007C#16))
      ∧ Answers (exec (.eventEnWrite value) s) (fun t =>
        t = { s with events := { s.events with enables := value.extractLsb' 0 7 } }
          ∧ readRegister .eventEn t = value &&& 0x007F#16
          ∧ intAsserted t = ((readRegister .events s &&& value &&& 0x007F#16) != 0))
      ∧ (intAsserted s = true ↔
        (s.events.result = true ∧ s.events.enables.getLsbD 0 = true)
          ∨ (s.attnQueue ≠ [] ∧ s.events.enables.getLsbD 1 = true)
          ∨ (s.events.link = true ∧ s.events.enables.getLsbD 2 = true)
          ∨ (s.events.unit = true ∧ s.events.enables.getLsbD 3 = true)
          ∨ (s.events.posted = true ∧ s.events.enables.getLsbD 4 = true)
          ∨ (s.events.proto = true ∧ s.events.enables.getLsbD 5 = true)
          ∨ (s.events.access = true ∧ s.events.enables.getLsbD 6 = true))

/-- R153, R154: a write to RESULT_COALESCE stores the holdoff and the bounded threshold, and sets RESULT where the queue is
not empty and its count is at or above the new threshold; the holdoff timer's expiry stops it and sets RESULT where the
queue holds a record; a stopped timer does nothing (the model's deduction, log entry 5). -/
def Obligations.CoalescingRaisesResult : Prop :=
  ∀ (s : State) (value : Halfword), s.resetAsserted = false →
    let written := value.toNat % 64
    let threshold := if written = 0 then 1 else if 32 < written then 32 else written
    Answers (exec (.resultCoalesceWrite value) s) (fun t =>
      t = { s with events := { s.events with
            holdoff := value.extractLsb' 8 8
            threshold := threshold
            result := s.events.result || decide (s.results ≠ [] ∧ threshold ≤ s.results.length) } }
        ∧ readRegister .resultCoalesce t = (value &&& 0xFF00#16) ||| BitVec.ofNat 16 threshold)
      ∧ (s.events.holdoffTimer.isSome = true →
        exec .holdoffTimerExpiry s = .next { s with events := { s.events with
          holdoffTimer := none, result := s.events.result || decide (s.results ≠ []) } })
      ∧ (s.events.holdoffTimer = none → exec .holdoffTimerExpiry s = .next s)

/-! ## The link's states -/

/-- R113, R114, R128, R130: LINK_START in DOWN or FAULTED, the restart timer's expiry in FAULTED, and a TRAIN received in
DOWN or FAULTED with auto-restart enabled enter TRAINING: the epoch rises, both sides take their starting values, a TRAIN is
due, and the model's mark that a link loss stands is cleared (log entry 16). LINK_START is else refused LINK_BUSY, a stopped timer does nothing (log entry 5), and a TRAIN is discarded in TRAINING,
and in DOWN and FAULTED with auto-restart disabled. -/
def Obligations.LinkStartEntersTraining : Prop :=
  ∀ (s : State) (operand : Byte) (epoch : Epoch), s.resetAsserted = false →
    let entered (b : State) : State :=
      { b with
        link := { b.link with
          state := .training, epoch := b.link.epoch + 1, send := {}, recv := {}, attempts := 0, trainDue := true
          afterLoss := false, restartTimer := none, transmitter := b.link.transmitter }
        events := { b.events with link := true } }
    (s.link.state = .down ∨ s.link.state = .faulted →
      exec (.linkStart operand) s = .next (entered (withResult .done s)))
      ∧ (s.link.state = .training ∨ s.link.state = .discovery ∨ s.link.state = .up →
        exec (.linkStart operand) s = .next (withResult .linkBusy s))
      ∧ (s.link.state = .faulted → s.link.restartTimer.isSome = true →
        exec .restartTimerExpiry s = .next (entered s))
      ∧ (s.link.restartTimer = none → exec .restartTimerExpiry s = .next s)
      ∧ (s.link.state = .down ∨ s.link.state = .faulted → s.link.autoRestart = true →
        exec (.train epoch) s = .next (entered s))
      ∧ (s.link.state = .down ∨ s.link.state = .faulted → s.link.autoRestart = false → exec (.train epoch) s = .next s)
      ∧ (s.link.state = .training → exec (.train epoch) s = .next s)

/-- R115: the take of the due TRAIN, while no NAK and no ACK is to be sent before it, sends a TRAIN frame of the current
epoch, counts the attempt and starts the training interval; at the interval's end in TRAINING a TRAIN is due again while the
limit is 0 or not reached, and else the link is DOWN with TRAIN_LIMIT; in another link state, or with the interval stopped
(log entry 5), no attempt follows. -/
def Obligations.TrainingSendsTrains : Prop :=
  ∀ (s : State), s.resetAsserted = false →
    (s.link.transmitter = none → s.link.recv.nakOwed = false → s.link.state = .training → s.link.trainDue = true →
      exec .trainTake s = .next
        { s with link := { s.link with
          transmitter := some (frameBytes 0x01#8 0 s.link.epoch [])
          trainDue := false
          attempts := if s.link.attempts < 255 then s.link.attempts + 1 else s.link.attempts
          trainingInterval := some 100 } })
      ∧ (s.link.trainingInterval.isSome = true → s.link.state = .training →
        (s.link.trainingLimit = 0 ∨ s.link.attempts < s.link.trainingLimit.toNat →
          exec .trainingIntervalEnd s = .next { s with link := { s.link with trainingInterval := none, trainDue := true } })
        ∧ (s.link.trainingLimit ≠ 0 → s.link.trainingLimit.toNat ≤ s.link.attempts →
          exec .trainingIntervalEnd s = .next
            { s with
              link := { s.link with
                state := .down, lastLoss := .trainLimit, trainingInterval := none, trainDue := false
                transmitter := none }
              events := { s.events with link := true } }))
      ∧ (s.link.trainingInterval.isSome = true → s.link.state ≠ .training →
        exec .trainingIntervalEnd s = .next { s with link := { s.link with trainingInterval := none } })
      ∧ (s.link.trainingInterval = none → exec .trainingIntervalEnd s = .next s)

/-- R91, R92, R116, R117: a TRAIN-ACK of the current epoch in TRAINING starts the discovery timer and enters DISCOVERY;
elsewhere it is discarded, being counted where its epoch is not the current one and the link is in TRAINING, DISCOVERY or
UP. A REPORT-END delivered in DISCOVERY stops the timer and makes the link UP, the unit records standing; in UP it is a
protocol error and nothing else. -/
def Obligations.DiscoveryBeginsAndEnds : Prop :=
  ∀ (s : State) (epoch : Epoch) (h : MsgHeader), s.resetAsserted = false →
    (s.link.state = .training → epoch = s.link.epoch →
      exec (.trainAck epoch) s = .next
        { s with
          link := { s.link with
            state := .discovery, trainingInterval := none, trainDue := false, discoveryTimer := some 5000 }
          events := { s.events with link := true } })
      ∧ (InSession s → epoch = s.link.epoch → exec (.trainAck epoch) s = .next s)
      ∧ (s.link.state = .training ∨ InSession s → epoch ≠ s.link.epoch →
        exec (.trainAck epoch) s = .next (rxErrorCounted s))
      ∧ (s.link.state = .down ∨ s.link.state = .faulted → exec (.trainAck epoch) s = .next s)
      ∧ (InOrder h s → s.link.state = .discovery →
        exec (.reportEnd h) s = .next
          { s with
            link := { s.link with state := .up, recv := frameDelivered s.link.recv, discoveryTimer := none }
            events := { s.events with link := true } })
      ∧ (InOrder h s → s.link.state = .up → exec (.reportEnd h) s = .next (protoErrorCounted (delivered s)))

/-- R131: LINK_STOP takes the link to DOWN from any state: from DISCOVERY and UP by link loss with HOST_STOP; from TRAINING
and FAULTED with LINK set and the last-loss reason kept, as is the model's mark of a link loss (log entry 16); in DOWN it changes nothing. CMD_RESULT shows DONE. -/
def Obligations.LinkStopTakesLinkDown : Prop :=
  ∀ (s : State) (operand : Byte), s.resetAsserted = false →
    let done := withResult .done s
    (InSession s → Answers (exec (.linkStop operand) s) (LinkLost .hostStop .down done))
      ∧ (s.link.state = .training →
        exec (.linkStop operand) s = .next
          { done with
            link := { s.link with state := .down, trainingInterval := none, trainDue := false, transmitter := none }
            events := { s.events with link := true } })
      ∧ (s.link.state = .faulted →
        exec (.linkStop operand) s = .next
          { done with
            link := { s.link with state := .down, restartTimer := none, transmitter := none }
            events := { s.events with link := true } })
      ∧ (s.link.state = .down → exec (.linkStop operand) s = .next done)

/-- R17, R62, R85, R96, R110, R116, R127 to R129: loss of signal, a TRAIN received, and the discovery timer's expiry in
DISCOVERY lose an established link, with the reason of each: every tag is settled, every unit becomes ABSENT, the lists and
the replay list are emptied, and the model's mark that a link loss stands is set (log entry 16). In the other link states loss of signal does nothing and the expiry only stops the timer; a
stopped timer does nothing (log entry 5). -/
def Obligations.LinkLossSettlesEveryBlock : Prop :=
  ∀ (s : State) (epoch : Epoch), s.resetAsserted = false →
    (InSession s →
      Answers (exec .lossOfSignal s) (LinkLost .signalLost .faulted s)
        ∧ Answers (exec (.train epoch) s) (LinkLost .farRestart .faulted s))
      ∧ (¬ InSession s → exec .lossOfSignal s = .next s)
      ∧ (s.link.state = .discovery → s.link.discoveryTimer.isSome = true →
        Answers (exec .discoveryTimerExpiry s) (LinkLost .discoveryTimeout .faulted s))
      ∧ (s.link.state ≠ .discovery →
        exec .discoveryTimerExpiry s = .next { s with link := { s.link with discoveryTimer := none } })
      ∧ (s.link.discoveryTimer = none → exec .discoveryTimerExpiry s = .next s)

/-! ## Acknowledgement and replay -/

/-- R117, R123: an ACK of the current epoch in DISCOVERY or UP: outside the window a protocol error; of the oldest number
nothing; else the frames before its number leave the head of the replay list, the episode count is 0, the replay timer
restarts or stops, and a pass goes on or ends. In TRAINING it is discarded; another epoch's is discarded and counted; in
DOWN and FAULTED it is discarded. -/
def Obligations.AckShortensReplayList : Prop :=
  ∀ (s : State) (epoch : Epoch) (n : SeqNo), s.resetAsserted = false →
    let d := s.link.send
    let removed := (n - oldestUnacknowledged d).toNat
    let left := d.replayList.drop removed
    (InSession s → epoch = s.link.epoch →
      (¬ InWindow d n → exec (.ack epoch n) s = .next (protoErrorCounted s))
        ∧ (InWindow d n → removed = 0 → exec (.ack epoch n) s = .next s)
        ∧ (InWindow d n → 0 < removed →
          exec (.ack epoch n) s = .next
            { s with link := { s.link with send := { d with
              replayList := left
              episode := 0
              replayTimer := if left = [] then none else some (s.link.replayTimeout * 8)
              pass := if left = [] then none else d.pass.map (fun i => i - removed) } } }))
      ∧ (s.link.state = .training ∨ InSession s → epoch ≠ s.link.epoch →
        exec (.ack epoch n) s = .next (rxErrorCounted s))
      ∧ (s.link.state = .training → epoch = s.link.epoch → exec (.ack epoch n) s = .next s)
      ∧ (s.link.state = .down ∨ s.link.state = .faulted → exec (.ack epoch n) s = .next s)

/-- R117, R124 to R126: a NAK of the current epoch in DISCOVERY or UP acts first as the ACK of its number; then, with frames left
to resend, a pass in progress goes on from the head, and else a pass is demanded, as it is by the replay timer's expiry. A
demand starts a pass from the head, counted, with the timer restarted, while the episode count is below 4, and is link loss
with REPLAY_LIMIT at 4. A stopped timer does nothing (log entry 5). A NAK of another epoch is discarded and counted in
TRAINING, DISCOVERY and UP; in TRAINING one of the current epoch is discarded, and in DOWN and FAULTED every NAK. -/
def Obligations.NakAndReplayTimerDemandPass : Prop :=
  ∀ (s : State) (epoch : Epoch) (n : SeqNo), s.resetAsserted = false →
    let d := s.link.send
    let removed := (n - oldestUnacknowledged d).toNat
    let left := d.replayList.drop removed
    let setting := some (s.link.replayTimeout * 8)
    let counted := if s.link.replayCount < 65535 then s.link.replayCount + 1 else s.link.replayCount
    let acked : SendSide :=
      if removed = 0 then d
      else
        { d with
          replayList := left
          episode := 0
          replayTimer := if left = [] then none else setting
          pass := if left = [] then none else d.pass.map (fun i => i - removed) }
    (InSession s → epoch = s.link.epoch →
      (¬ InWindow d n → exec (.nak epoch n) s = .next (protoErrorCounted s))
        ∧ (InWindow d n → n = d.next → exec (.nak epoch n) s = exec (.ack epoch n) s)
        ∧ (InWindow d n → n ≠ d.next → acked.pass.isSome = true →
          exec (.nak epoch n) s = .next
            { s with link := { s.link with send := { acked with pass := some 0 } } })
        ∧ (InWindow d n → n ≠ d.next → acked.pass = none → acked.episode < 4 →
          exec (.nak epoch n) s = .next
            { s with link := { s.link with
              send := { acked with pass := some 0, episode := acked.episode + 1, replayTimer := setting }
              replayCount := counted } })
        ∧ (InWindow d n → n ≠ d.next → acked.pass = none → 4 ≤ acked.episode →
          Answers (exec (.nak epoch n) s) (LinkLost .replayLimit .faulted s)))
      ∧ (s.link.state = .training ∨ InSession s → epoch ≠ s.link.epoch →
        exec (.nak epoch n) s = .next (rxErrorCounted s))
      ∧ (s.link.state = .training → epoch = s.link.epoch → exec (.nak epoch n) s = .next s)
      ∧ (s.link.state = .down ∨ s.link.state = .faulted → exec (.nak epoch n) s = .next s)
      ∧ (InSession s →
        (d.replayTimer.isSome = true → d.episode < 4 →
          exec .replayTimerExpiry s = .next
            { s with link := { s.link with
              send := { d with pass := some 0, episode := d.episode + 1, replayTimer := setting }
              replayCount := counted } })
        ∧ (d.replayTimer.isSome = true → 4 ≤ d.episode →
          Answers (exec .replayTimerExpiry s) (LinkLost .replayLimit .faulted s))
        ∧ (d.replayTimer = none → exec .replayTimerExpiry s = .next s))

/-- R117, R120, R121, Table 8.3: a frame that fails the CRC or form check is discarded in DOWN and FAULTED, counted in
TRAINING, and counted with a NAK asked for in DISCOVERY and UP; the expiry of the acknowledgement delay timer makes an ACK
owed, and a stopped one does nothing (log entry 5). -/
def Obligations.BrokenFramesAskForReplay : Prop :=
  ∀ (s : State) (f : RawFrame), s.resetAsserted = false →
    (f.check.toOption = none →
      (s.link.state = .down ∨ s.link.state = .faulted → exec (.frameCheckFailure f) s = .next s)
        ∧ (s.link.state = .training → exec (.frameCheckFailure f) s = .next (rxErrorCounted s))
        ∧ (InSession s →
          exec (.frameCheckFailure f) s = .next
            { rxErrorCounted s with
              link := { (rxErrorCounted s).link with recv := nakAsked s.link.recv } }))
      ∧ (s.link.recv.ackDelayTimer.isSome = true →
        exec .ackDelayTimerExpiry s = .next
          { s with link := { s.link with recv := { s.link.recv with ackDelayTimer := none, ackOwed := true } } })
      ∧ (s.link.recv.ackDelayTimer = none → exec .ackDelayTimerExpiry s = .next s)

/-- R117, R118, Table 8.4: every MESSAGE frame, whatever its message: in DOWN and FAULTED it is discarded, of another epoch
it is discarded and counted, in TRAINING discarded; in DISCOVERY and UP one ahead of the expected number is counted and a
NAK asked for, one behind makes an ACK owed, and one in order is delivered, the expected number rising by one. That every
row of a message makes these checks is the model's form (log entry 7). In DOWN or FAULTED a reply of the old link, after link
loss and before a new training, is a protocol error (R85); that "not counted" in R117 and R129 leaves it one is the model's
deduction (log entry 16). -/
def Obligations.MessageFramesAreSequenced : Prop :=
  ∀ (s : State) (c : Instr) (h : MsgHeader), s.resetAsserted = false → messageHeader c = some h →
    let d := (h.seq - s.link.recv.expected).toNat
    (s.link.state = .down ∨ s.link.state = .faulted →
      exec c s = .next
        (if replyAfterLoss c s = true then protoErrorCounted s else s))
      ∧ (s.link.state = .training → h.epoch = s.link.epoch → exec c s = .next s)
      ∧ (s.link.state = .training ∨ InSession s → h.epoch ≠ s.link.epoch → exec c s = .next (rxErrorCounted s))
      ∧ (InSession s → h.epoch = s.link.epoch →
        (1 ≤ d → d ≤ 15 →
          exec c s = .next
            { rxErrorCounted s with link := { (rxErrorCounted s).link with recv := nakAsked s.link.recv } })
        ∧ (16 ≤ d →
          exec c s = .next { s with link := { s.link with recv := { s.link.recv with ackOwed := true } } })
        ∧ (d = 0 → Answers (exec c s) (fun t => t.link.recv = frameDelivered s.link.recv)))

/-- R64, R66, R88, R89, R92, R95, R102, R119, R139, R155: a delivered message that its owner discards is counted as one
protocol error, its frame having been delivered, and changes nothing else. -/
def Obligations.DiscardedMessagesAreProtocolErrors : Prop :=
  ∀ (s : State) (c : Instr) (h : MsgHeader), messageHeader c = some h → InOrder h s → DiscardedAsError c s →
    exec c s = .next (protoErrorCounted (delivered s))

/-! ## Replies -/

/-- R5, R41, R68, R70, R72, R75: an accepted non-final segment, in SENT, RECEIVING or CANCELLING: its words go to their
places, or word 0 to the slot, words received rises by its count, SENT becomes RECEIVING, and a running timer restarts from
the unit's reply timeout, stopping at a timeout of 0; nothing else changes. -/
def Obligations.SegmentPlacesWords : Prop :=
  ∀ (s : State) (h : MsgHeader) (t : Tag) (u : UnitNo) (offset count : Byte) (words : List Word),
    InOrder h s → Answerable t u s → (s.tag t).posted = false →
    (s.tag t).kind = .read ∨ (s.tag t).kind = .readBlock ∨ (s.tag t).kind = .exchange →
    1 ≤ count.toNat → count.toNat ≤ 16 → words.length = count.toNat →
    offset.toNat = (s.tag t).wordsReceived → offset.toNat + count.toNat < (s.tag t).length →
    let r := s.tag t
    let block := r.kind = .readBlock
    let timeout := (s.unit u).replyTimeout
    exec (.replyData h t u false false offset count words) s = .next
      { updTag t (fun _ => { r with
          state := if r.state = .sent then .receiving else r.state
          wordsReceived := r.wordsReceived + count.toNat
          slot := if block then r.slot else words.headD r.slot
          timer :=
            match r.timer with
            | .idle => .idle
            | .reply _ => if timeout = 0 then .idle else .reply timeout
            | .cancel _ => if timeout = 0 then .idle else .cancel timeout }) (delivered s) with
        store := if block then writePlaces r.chunkList offset.toNat words s.store else s.store }

/-- R7, R41, R67, R68, R71, R76, R77: an accepted final REPLY-DATA: its words are placed, the credit returns, and the tag
completes: OK with the length delivered, or SHORT with the words received, in SENT, RECEIVING and CANCELLING of cause HOST;
TIMEOUT with nothing delivered in CANCELLING of cause TIMEOUT; executed YES. -/
def Obligations.FinalDataCompletesTag : Prop :=
  ∀ (s : State) (h : MsgHeader) (t : Tag) (u : UnitNo) (short : Bool) (offset count : Byte) (words : List Word),
    InOrder h s → ListsExact s → Answerable t u s → (s.tag t).posted = false →
    (s.tag t).kind = .read ∨ (s.tag t).kind = .readBlock ∨ (s.tag t).kind = .exchange →
    1 ≤ count.toNat → count.toNat ≤ 16 → words.length = count.toNat →
    offset.toNat = (s.tag t).wordsReceived →
    (if short = true then offset.toNat + count.toNat < (s.tag t).length
      else offset.toNat + count.toNat = (s.tag t).length) →
    let r := s.tag t
    let block := r.kind = .readBlock
    let received := r.wordsReceived + count.toNat
    let placed : State :=
      { updTag t (fun _ => { r with
          wordsReceived := received, slot := if block then r.slot else words.headD r.slot }) (delivered s) with
        store := if block then writePlaces r.chunkList offset.toNat words s.store else s.store }
    let e : Ending :=
      if r.state = .cancelling ∧ r.cancelCause = .timeout then ⟨.timeout, none, .yes, 0, false⟩
      else if short = true then ⟨.short, none, .yes, received, false⟩
      else ⟨.ok, none, .yes, r.length, false⟩
    Answers (exec (.replyData h t u true short offset count words) s) (Completes t e (creditReturned u placed))

/-- R7, R64, R67, R68, R71, R76, R77: an accepted REPLY-DONE for a WRITE or WRITE BLOCK completes the tag OK, executed YES,
and an accepted REPLY-REFUSE completes it REFUSED with its reason, executed NO; in CANCELLING of cause HOST the reason
CANCELLED makes the outcome CANCELLED, and of cause TIMEOUT the outcome of either reply is TIMEOUT. The credit returns. -/
def Obligations.DoneAndRefusalCompleteTag : Prop :=
  ∀ (s : State) (h : MsgHeader) (t : Tag) (u : UnitNo) (reason : Byte) (why : RefusalReason),
    InOrder h s → ListsExact s → Answerable t u s → (s.tag t).posted = false →
    let late := (s.tag t).state = .cancelling ∧ (s.tag t).cancelCause = .timeout
    let base := creditReturned u (delivered s)
    ((s.tag t).kind = .write ∨ (s.tag t).kind = .writeBlock →
      Answers (exec (.replyDone h t u) s)
        (Completes t ⟨if late then .timeout else .ok, none, .yes, 0, false⟩ base))
      ∧ (reason.toNat = why.code →
        Answers (exec (.replyRefuse h t u reason) s)
          (Completes t
            ⟨if late then .timeout
              else if (s.tag t).state = .cancelling ∧ why = .cancelled then .cancelled
              else .refused, some why, .no, 0, false⟩ base))

/-- R64, R67, R69: a well-formed reply that fails a check of Table 5.2 for a non-posted tag in SENT, RECEIVING or CANCELLING
places no data and completes the tag PROTOCOL, reason none, executed UNKNOWN, nothing delivered, one protocol error being
counted; a final one returns the credit, another leaves far-reply-pending yes. -/
def Obligations.ViolationsCompleteProtocol : Prop :=
  ∀ (s : State) (h : MsgHeader) (t : Tag) (u : UnitNo) (final short : Bool) (offset count : Byte) (words : List Word),
    InOrder h s → ListsExact s → Answerable t u s → (s.tag t).posted = false →
    let r := s.tag t
    let violated (owed : Bool) := Completes t ⟨.protocol, none, .unknown, 0, owed⟩
    (1 ≤ count.toNat → count.toNat ≤ 16 → words.length = count.toNat → ¬ (short = true ∧ final = false) →
      r.kind = .write ∨ r.kind = .writeBlock ∨ r.kind = .mark ∨ offset.toNat ≠ r.wordsReceived
        ∨ r.length < offset.toNat + count.toNat
        ∨ (final = false ∧ r.length ≤ offset.toNat + count.toNat)
        ∨ (final = true ∧ short = false ∧ offset.toNat + count.toNat ≠ r.length)
        ∨ (final = true ∧ short = true ∧ r.length ≤ offset.toNat + count.toNat) →
      Answers (exec (.replyData h t u final short offset count words) s)
        (if final = true then violated false (creditReturned u (protoErrorCounted (delivered s)))
          else violated true (protoErrorCounted (delivered s))))
      ∧ (r.kind = .read ∨ r.kind = .readBlock ∨ r.kind = .exchange ∨ r.kind = .mark →
        Answers (exec (.replyDone h t u) s)
          (violated false (creditReturned u (protoErrorCounted (delivered s)))))

/-- R14, R67, R80 to R82, Table 5.5: replies for a posted WRITE or WRITE BLOCK in POSTED or CANCELLING: REPLY-DONE frees the
tag silently; a refusal frees it with a report of its reason in POSTED, of TIMEOUT in CANCELLING; a refusal CANCELLED in
POSTED, and a final REPLY-DATA, free it, and a non-final one orphans it, with a report of PROTOCOL and one protocol error.
The credit returns with every final reply. A refusal's report has the code of its reason (Table 5.6). -/
def Obligations.PostedRepliesReachLatch : Prop :=
  ∀ (s : State) (h : MsgHeader) (t : Tag) (u : UnitNo) (final short : Bool) (offset count reason : Byte)
      (words : List Word) (why : RefusalReason),
    InOrder h s → ListsExact s → Answerable t u s → (s.tag t).posted = true →
    (s.tag t).kind = .write ∨ (s.tag t).kind = .writeBlock →
    (s.tag t).state = .posted ∨ (s.tag t).state = .cancelling →
    let cancelling := (s.tag t).state = .cancelling
    let violated := reported t .protocol (protoErrorCounted (delivered s))
    Answers (exec (.replyDone h t u) s) (Frees t (creditReturned u (delivered s)))
      ∧ (reason.toNat = why.code → cancelling ∨ why ≠ .cancelled →
        Answers (exec (.replyRefuse h t u reason) s)
          (Frees t (creditReturned u
            (reported t (if cancelling then .timeout else postedRefusal why) (delivered s)))))
      ∧ (reason.toNat = 6 → ¬ cancelling →
        Answers (exec (.replyRefuse h t u reason) s) (Frees t (creditReturned u violated)))
      ∧ (1 ≤ count.toNat → count.toNat ≤ 16 → words.length = count.toNat → ¬ (short = true ∧ final = false) →
        Answers (exec (.replyData h t u final short offset count words) s)
          (if final = true then Frees t (creditReturned u violated) else Orphans t violated))
      ∧ (why ≠ .cancelled → (postedRefusal why).code = why.code)

/-- R10, R15, R67, R79: a reply matched to a COMPLETE tag with far-reply-pending yes, or to an ORPHANED tag, is not checked:
a non-final one is discarded; a final one returns the credit and ends the debt, the ORPHANED tag becoming FREE. -/
def Obligations.LateRepliesEndDebt : Prop :=
  ∀ (s : State) (h : MsgHeader) (t : Tag) (u : UnitNo) (final short : Bool) (offset count reason : Byte)
      (words : List Word),
    InOrder h s → ListsExact s → ChunksAccounted s → (s.unit u).present = true → (s.tag t).unit = u →
    ((s.tag t).state = .complete ∧ (s.tag t).farReplyPending = true) ∨ (s.tag t).state = .orphaned →
    let settled := creditReturned u (updTag t (fun r =>
      if r.state = .orphaned then {} else { r with farReplyPending := false }) (delivered s))
    exec (.replyDone h t u) s = .next settled
      ∧ (1 ≤ reason.toNat → reason.toNat ≤ 6 → exec (.replyRefuse h t u reason) s = .next settled)
      ∧ (1 ≤ count.toNat → count.toNat ≤ 16 → words.length = count.toNat → ¬ (short = true ∧ final = false) →
        exec (.replyData h t u final short offset count words) s
          = .next (if final = true then settled else delivered s))

/-- R6, R73, R78, R81: the reply timer's expiry takes a SENT, RECEIVING or POSTED tag into CANCELLING with cause TIMEOUT, a
CANCEL owed; the cancel timer's expiry in CANCELLING completes a non-posted tag LOST with far-reply-pending yes, and reports
LOST for a posted one and orphans it; no credit returns; and a timer that does not run, the other one running or none, does
not expire (log entry 5). -/
def Obligations.TagTimersExpire : Prop :=
  ∀ (s : State) (t : Tag) (setting : Halfword), s.resetAsserted = false → ListsExact s →
    ((s.tag t).timer = .reply setting →
      (s.tag t).state = .sent ∨ (s.tag t).state = .receiving ∨ (s.tag t).state = .posted →
      exec (.replyTimerExpiry t) s = .next
        { updTag t (fun r => { r with
            state := .cancelling, cancelCause := .timeout, cancelPending := true, timer := .idle }) s with
          owedCancels := s.owedCancels ++ [t] })
      ∧ ((s.tag t).timer = .cancel setting → (s.tag t).state = .cancelling →
        Answers (exec (.cancelTimerExpiry t) s)
          (if (s.tag t).posted = true then Orphans t (reported t .lost s)
            else Completes t ⟨.lost, none, .unknown, 0, true⟩ s))
      ∧ ((s.tag t).timer = .idle →
        exec (.replyTimerExpiry t) s = .next s ∧ exec (.cancelTimerExpiry t) s = .next s)
      ∧ ((s.tag t).timer = .cancel setting → exec (.replyTimerExpiry t) s = .next s)
      ∧ ((s.tag t).timer = .reply setting → exec (.cancelTimerExpiry t) s = .next s)

/-! ## Units and attentions -/

/-- R89, R90, R93: an accepted UNIT-REPORT makes its ABSENT unit PRESENT with the reported values and an outstanding count
of 0, and sets UNIT; the host-owned fields, the held attention and the other units are as they were. -/
def Obligations.UnitReportMakesPresent : Prop :=
  ∀ (s : State) (h : MsgHeader) (u : UnitNo) (spaces : BitVec 4) (classCode : Halfword) (limit maxBlock : Byte),
    InOrder h s → (s.unit u).present = false → 1 ≤ limit.toNat → limit.toNat ≤ 8 → 1 ≤ maxBlock.toNat →
    maxBlock.toNat ≤ 64 →
    exec (.unitReport h u spaces classCode limit maxBlock) s = .next
      { updUnit u (fun v => { v with
          present := true, classCode := classCode, creditLimit := limit.toNat, maxBlock := maxBlock.toNat
          spaces := spaces, outstanding := 0 }) (delivered s) with
        events := { s.events with unit := true } }

/-- R18, R62, R85, R94, R109: UNIT-GONE for a PRESENT unit settles the unit's tags in ascending tag number, takes them out
of the lists, makes its record ABSENT with the host-owned fields kept, discards its held attention and ack owed, leaves its
queue record with ack due no, and sets UNIT; nothing else changes. -/
def Obligations.UnitGoneSettlesUnit : Prop :=
  ∀ (s : State) (h : MsgHeader) (u : UnitNo), InOrder h s → ListsExact s → (s.unit u).present = true →
    Answers (exec (.unitGone h u) s) (fun t =>
      Settles .unitGone .unitGone (fun x => decide ((s.tag x).unit = u)) s t
        ∧ t.dispatchQueue = s.dispatchQueue.filter (fun x => (s.tag x).unit ≠ u)
        ∧ t.owedCancels = s.owedCancels.filter (fun x => (s.tag x).unit ≠ u)
        ∧ (∀ v, t.unit v =
          if v = u then { replyTimeout := (s.unit u).replyTimeout, masked := (s.unit u).masked } else s.unit v)
        ∧ t.attnQueue = s.attnQueue.map (fun r => if r.unit = u then ⟨u, { r.attn with ackDue := false }⟩ else r)
        ∧ t.events = EventUnit.afterAppends s.results.length t.results.length
          { s.events with unit := true, posted := t.events.posted }
        ∧ t = { delivered s with
          tags := t.tags, results := t.results, latch := t.latch, store := t.store, dispatchQueue := t.dispatchQueue
          owedCancels := t.owedCancels, units := t.units, attnQueue := t.attnQueue, events := t.events })

/-- R102 to R104: an ATTENTION accepted in UP merges into its unit's queue record in its place, or is appended as a new one,
where the unit is UNMASKED; where it is MASKED it merges into the held attention or makes it. -/
def Obligations.AttentionsAreQueuedOrHeld : Prop :=
  ∀ (s : State) (h : MsgHeader) (u : UnitNo) (number : Byte) (cause : Halfword),
    InOrder h s → s.link.state = .up → (s.unit u).present = true →
    let merged (a : Attn) : Attn := ⟨a.cause ||| cause, if a.count < 255 then a.count + 1 else a.count, number, true⟩
    let fresh : Attn := ⟨cause, 1, number, true⟩
    ((s.unit u).masked = false →
      exec (.attention h u number cause) s = .next
        { delivered s with
          attnQueue :=
            if ∃ r ∈ s.attnQueue, r.unit = u then
              s.attnQueue.map (fun r => if r.unit = u then ⟨u, merged r.attn⟩ else r)
            else s.attnQueue ++ [⟨u, fresh⟩] })
      ∧ ((s.unit u).masked = true →
        exec (.attention h u number cause) s = .next
          (updUnit u (fun v => { v with held := some ((v.held.map merged).getD fresh) }) (delivered s)))

/-! ## The transmitter -/

/-- R56 to R58: the take of an item is made only while the transmitter is idle, the item applies, and no item above it in
Table 4.2 does; new message frames are admitted only in UP, with fewer than 8 frames on the replay list and no pass in
progress. A take that is not the arbiter's changes nothing (the model's choice, log entry 3). -/
def Obligations.TakesFollowArbiterOrder : Prop :=
  ∀ (s : State), s.resetAsserted = false →
    let l := s.link
    let nak := l.recv.nakOwed = true
    let ack := l.recv.ackOwed = true ∧ InSession s
    let train := l.state = .training ∧ l.trainDue = true
    let replay := (replayFrame l.send).isSome = true
    let admitted := l.state = .up ∧ l.send.replayList.length < 8 ∧ l.send.pass = none
    let attention := ∃ u, (s.unit u).ackOwed.isSome = true
    let cancel := s.owedCancels ≠ []
    let request := ∃ t ∈ s.dispatchQueue, eligible s t = true
    let idle := l.transmitter = none
    (¬ (idle ∧ nak) → exec .nakTake s = .next s)
      ∧ (¬ (idle ∧ ¬ nak ∧ ack) → exec .ackTake s = .next s)
      ∧ (¬ (idle ∧ ¬ nak ∧ ¬ ack ∧ train) → exec .trainTake s = .next s)
      ∧ (¬ (idle ∧ ¬ nak ∧ ¬ ack ∧ ¬ train ∧ replay) → exec .replayTake s = .next s)
      ∧ (¬ (idle ∧ ¬ nak ∧ ¬ ack ∧ admitted ∧ attention) → exec .attentionAckTake s = .next s)
      ∧ (¬ (idle ∧ ¬ nak ∧ ¬ ack ∧ admitted ∧ ¬ attention ∧ cancel) → exec .cancelTake s = .next s)
      ∧ (¬ (idle ∧ ¬ nak ∧ ¬ ack ∧ admitted ∧ ¬ attention ∧ ¬ cancel ∧ request) → exec .requestTake s = .next s)

/-- R56, R120, R121, R126, R135: with the transmitter idle, the take of an owed NAK or ACK sends it with the expected number
and clears what this side owes; the take of a pass's next frame resends the replay list's own copy and moves the pass on, or
ends it at the tail; and the end of a frame makes the transmitter idle. -/
def Obligations.ControlTakesSendFrames : Prop :=
  ∀ (s : State) (i : Nat) (f : SentFrame), s.resetAsserted = false →
    let l := s.link
    let v := l.recv
    (l.transmitter = none → v.nakOwed = true →
      exec .nakTake s = .next
        { s with link := { l with
          transmitter := some (frameBytes 0x04#8 v.expected l.epoch [])
          recv := { v with nakOwed := false, ackOwed := false, ackCount := 0, ackDelayTimer := none } } })
      ∧ (l.transmitter = none → v.nakOwed = false → v.ackOwed = true → InSession s →
        exec .ackTake s = .next
          { s with link := { l with
            transmitter := some (frameBytes 0x03#8 v.expected l.epoch [])
            recv := { v with ackOwed := false, ackCount := 0, ackDelayTimer := none } } })
      ∧ (l.transmitter = none → v.nakOwed = false → v.ackOwed = false → l.state ≠ .training → l.send.pass = some i →
        l.send.replayList[i]? = some f →
        exec .replayTake s = .next
          { s with link := { l with
            transmitter := some f.bytes
            send := { l.send with
              pass := if i + 1 < l.send.replayList.length then some (i + 1) else none } } })
      ∧ exec .transmitEnd s = .next { s with link := { l with transmitter := none } }

/-- R52, R56 to R61, R72, R74, R108, R122: the takes of new message frames. Each sends a MESSAGE frame with the next send
number and the current epoch, puts its copy at the tail of the replay list, and starts the replay timer if the list was
empty. They are made with the transmitter idle, no NAK or ACK to be sent, the link UP, fewer than 8 frames on the replay
list and no pass in progress. An ATTENTION-ACK goes for the lowest-numbered unit with ack owed set, which becomes clear. With
none set, a CANCEL goes for the tag at the head of the owed-cancel list, whose cancel timer starts. With that list empty too,
a REQUEST goes for the tag eligible earliest in the dispatch queue, which leaves it, enters SENT, or POSTED if posted, with
its reply timer started, its unit's outstanding count rising by one. A timeout of 0 starts no timer. -/
def Obligations.MessageTakesSendFrames : Prop :=
  ∀ (s : State) (t : Tag) (u : UnitNo) (number : Byte), s.resetAsserted = false →
    s.link.transmitter = none → s.link.recv.nakOwed = false → s.link.recv.ackOwed = false → s.link.state = .up →
    s.link.send.replayList.length < 8 → s.link.send.pass = none →
    let sent (body : List Word) (b : State) : State :=
      { b with link := { s.link with
        transmitter := some (frameBytes 0x08#8 s.link.send.next s.link.epoch body)
        send := { s.link.send with
          next := s.link.send.next + 1
          replayList := s.link.send.replayList
            ++ [⟨s.link.send.next, frameBytes 0x08#8 s.link.send.next s.link.epoch body⟩]
          replayTimer :=
            if s.link.send.replayList = [] then some (s.link.replayTimeout * 8) else s.link.send.replayTimer } } }
    let r := s.tag t
    let timeout := (s.unit r.unit).replyTimeout
    let noneOwed := ∀ v, (s.unit v).ackOwed = none
    ((s.unit u).ackOwed = some number →
      (∀ v, v < u → (s.unit v).ackOwed = none) →
      exec .attentionAckTake s = .next
        (sent [wordOfBytes 0x12#8 0 (BitVec.ofNat 8 u.val) number] (updUnit u (fun v => { v with ackOwed := none }) s)))
      ∧ (noneOwed → s.owedCancels.head? = some t →
        exec .cancelTake s = .next
          (sent [wordOfBytes 0x11#8 (BitVec.ofNat 8 t.val) (BitVec.ofNat 8 r.unit.val) 0]
            { updTag t (fun r => { r with
                cancelPending := false, timer := if timeout = 0 then .idle else .cancel timeout }) s with
              owedCancels := s.owedCancels.tail }))
      ∧ (noneOwed → s.owedCancels = [] → s.dispatchQueue.find? (eligible s) = some t →
        exec .requestTake s = .next
          (sent (requestBody t r s.store)
            { updUnit r.unit (fun v => { v with outstanding := v.outstanding + 1 })
                (updTag t (fun r => { r with
                  state := if r.posted then .posted else .sent
                  timer := if timeout = 0 then .idle else .reply timeout }) s) with
              dispatchQueue := s.dispatchQueue.filter (fun x => x ≠ t) }))

/-- R50, R51, R55: a tag is eligible exactly where it is QUEUED, every tag before it in its unit's order list is in SENT,
RECEIVING, CANCELLING or POSTED, its unit's outstanding count is below the credit limit and the link is UP; so at most one
tag of a unit is eligible at a time. -/
def Obligations.OneEligibleTagPerUnit : Prop :=
  ∀ (s : State) (t x : Tag),
    (eligible s t = true ↔
      (s.tag t).state = .queued
        ∧ (∀ y ∈ (s.unit (s.tag t).unit).orderList.takeWhile (fun y => y ≠ t),
          (s.tag y).state = .sent ∨ (s.tag y).state = .receiving ∨ (s.tag y).state = .cancelling
            ∨ (s.tag y).state = .posted)
        ∧ (s.unit (s.tag t).unit).outstanding < (s.unit (s.tag t).unit).creditLimit
        ∧ s.link.state = .up)
      ∧ (OrderListsExact s → eligible s t = true → eligible s x = true → (s.tag t).unit = (s.tag x).unit → t = x)

/-! ## Frames, messages and the store -/

/-- R117, R135 to R137: for any header bytes and body, the frame of those bytes with its CRC passes exactly where its type
is one of the five, its byte 3 is the number of its body words, and that is at most 20; the fields read are those of Table
9.2, the reserved bits of bytes 1 and 2 being ignored. So every frame the part forms with at most 20 body words reads back
as the frame it was formed from. A frame fails the CRC check where it was broken off, has fewer than 6 bytes, or ends in two
bytes that are not the CRC of the others. The CRC is 0xFFFF of no bytes, each byte is combined into bits 15 to 8 and stepped
eight times with 0x1021, and the nine test bytes yield 0x29B1. -/
def Obligations.FramesReadBackAsFormed : Prop :=
  ∀ (b0 b1 b2 b3 : Byte) (body : List Word) (seq : SeqNo) (epoch : Epoch) (f : RawFrame),
    let content : List Byte := [b0, b1, b2, b3] ++ body.flatMap bytesOfWord
    let raw : RawFrame :=
      ⟨content ++ [(crc16 content).extractLsb' 8 8, (crc16 content).extractLsb' 0 8], false⟩
    let number : SeqNo := b1.extractLsb' 0 5
    let inEpoch : Epoch := b2.extractLsb' 0 4
    raw.check.toOption =
        (if body.length = b3.toNat ∧ b3.toNat ≤ 20 then
          if b0 = 0x01#8 then some (.train inEpoch)
          else if b0 = 0x02#8 then some (.trainAck inEpoch)
          else if b0 = 0x03#8 then some (.ack inEpoch number)
          else if b0 = 0x04#8 then some (.nak inEpoch number)
          else if b0 = 0x08#8 then some (.message ⟨inEpoch, number⟩ body)
          else none
        else none)
      ∧ (body.length ≤ 20 →
        RawFrame.check ⟨frameBytes 0x08#8 seq epoch body, false⟩ = .ok (.message ⟨epoch, seq⟩ body))
      ∧ RawFrame.check ⟨trainFrame epoch, false⟩ = .ok (.train epoch)
      ∧ RawFrame.check ⟨ackFrame epoch seq, false⟩ = .ok (.ack epoch seq)
      ∧ RawFrame.check ⟨nakFrame epoch seq, false⟩ = .ok (.nak epoch seq)
      ∧ (f.brokenOff = true ∨ f.bytes.length < 6 → f.check = .error .crc)
      ∧ ((b2 ++ b3 : BitVec 16) ≠ crc16 f.bytes → RawFrame.check ⟨f.bytes ++ [b2, b3], false⟩ = .error .crc)
      ∧ crc16 [] = 0xFFFF#16
      ∧ crc16 (f.bytes ++ [b0])
        = Nat.repeat (fun r : BitVec 16 => if r.getLsbD 15 then (r <<< 1) ^^^ 0x1021#16 else r <<< 1) 8
          (crc16 f.bytes ^^^ (b0 ++ 0#8 : BitVec 16))
      ∧ crc16 [0x31#8, 0x32#8, 0x33#8, 0x34#8, 0x35#8, 0x36#8, 0x37#8, 0x38#8, 0x39#8] = 0x29B1#16

/-- R43, R44, R117, R119, R137, R139, R141 to R143, Tables 9.6 and 9.7: what the ports take acts as its own row of the table:
the bytes of a received frame as the row they decode to, a message by its code with its fields at their places; and a host
write at an offset as the write to the register there, whose row is its own; a write to CMD is its command. A host read at an
offset puts the value there on the bus; one of RD_DATA_H, RD_DATA_L or an unused offset acts as its row,
and no other changes anything in the part. The model's choices in it: that a row given an operand of another row acts as that
row (log entries 7 and 8), that a REPLY-DATA of one word, ill formed under R64, is read with count and offset 0 (log entry 10), and that takeHostRead,
beside the steps, is the event of a read (log entry 13). -/
def Obligations.PortsActAsTheirRows : Prop :=
  ∀ (s : State) (f : RawFrame) (r : Reg) (value : Halfword) (n : Fin 64) (h : MsgHeader) (b0 b1 b2 b3 c0 c1 c2 c3 : Byte)
      (words : List Word),
    let w0 (code : Byte) : Word := wordOfBytes code b1 b2 b3
    let w1 : Word := wordOfBytes c0 c1 c2 c3
    let tag : Tag := (b1.extractLsb' 0 5).toFin
    let unit : UnitNo := (b2.extractLsb' 0 4).toFin
    exec (decodeFrame f) s = exec (.frameCheckFailure f) s
      ∧ exec (r.writeRow value) s = exec (.registerWrite r value) s
      ∧ (Reg.ofIndex n = some r → exec (decodeHostWrite n value) s = exec (.registerWrite r value) s)
      ∧ Answers (takeHostRead n s) (fun t => t.host.readData = readOffset n s)
      ∧ (∀ c, decodeHostRead n = some c → takeHostRead n s = exec c s)
      ∧ (decodeHostRead n = none →
        takeHostRead n s = .next { s with host := { s.host with readData := readOffset n s } })
      ∧ (decodeHostRead n = none ↔ ∃ x, Reg.ofIndex n = some x ∧ x ≠ .rdDataH ∧ x ≠ .rdDataL)
      ∧ Reg.ofIndex n =
        [Reg.id, .cmd, .cmdResult, .events, .eventEn, .resultCoalesce, .linkState, .linkCtrl, .linkTiming, .rxErrors,
          .replayCount, .stgCmd, .stgAddrH, .stgAddrL, .stgLenLanes, .stgDataH, .stgDataL, .stgCount, .lastTag, .resViewA,
          .resViewB, .resWords, .rdDataH, .rdDataL, .attnView, .attnCause, .unitSel, .unitInfo, .unitClass, .unitTimeout,
          .unitCaps, .unitMask, .postedFailA, .postedFailAddrH, .postedFailAddrL, .postedOverflow, .protoErrors, .levelsA,
          .levelsB][n.val]?
      ∧ (∀ x, Reg.ofIndex n = some x → decodeHostWrite n value = x.writeRow value)
      ∧ (Reg.ofIndex n = none → ∃ place, decodeHostWrite n value = .unusedOffsetAccess place (.write value))
      ∧ Reg.writeRow .cmd value = decodeCommand value ∧ Reg.writeRow .events value = .eventsWrite value
      ∧ Reg.writeRow .eventEn value = .eventEnWrite value ∧ Reg.writeRow .resultCoalesce value = .resultCoalesceWrite value
      ∧ Reg.writeRow .linkCtrl value = .linkCtrlWrite value ∧ Reg.writeRow .rxErrors value = .linkCounterWrite .rxErrors value
      ∧ Reg.writeRow .replayCount value = .linkCounterWrite .replayCount value
      ∧ Reg.writeRow .stgDataH value = .stgDataHWrite value ∧ Reg.writeRow .stgDataL value = .stgDataLWrite value
      ∧ Reg.writeRow .unitMask value = .unitMaskWrite value ∧ Reg.writeRow .protoErrors value = .protoErrorsWrite value
      ∧ messageRow h (w0 0x20#8 :: w1 :: words) = .replyData h tag unit (b3.getLsbD 0) (b3.getLsbD 1) c0 c1 words
      ∧ messageRow h (w0 0x21#8 :: words) = .replyDone h tag unit
      ∧ messageRow h (w0 0x22#8 :: words) = .replyRefuse h tag unit b3
      ∧ messageRow h (w0 0x30#8 :: w1 :: words) = .unitReport h unit (b3.extractLsb' 0 4) (c0 ++ c1) c2 c3
      ∧ messageRow h (w0 0x31#8 :: words) = .reportEnd h ∧ messageRow h (w0 0x32#8 :: words) = .unitGone h unit
      ∧ messageRow h (w0 0x33#8 :: w1 :: words) = .attention h unit b3 (c0 ++ c1)
      ∧ messageRow h [] = .undefinedMessage h []
      ∧ messageRow h [w0 0x20#8] = .replyData h tag unit (b3.getLsbD 0) (b3.getLsbD 1) 0 0 []
      ∧ messageRow h [w0 0x30#8] = .undefinedMessage h [w0 0x30#8]
      ∧ messageRow h [w0 0x33#8] = .undefinedMessage h [w0 0x33#8]
      ∧ (b0 ∉ [0x20#8, 0x21#8, 0x22#8, 0x30#8, 0x31#8, 0x32#8, 0x33#8] →
        messageRow h (w0 b0 :: words) = .undefinedMessage h (w0 b0 :: words))
      ∧ (f.check.toOption = some (.message h words) → decodeFrame f = messageRow h words)

/-- R138, Table 9.5: the words of a REQUEST, formed from the tag's record and, for a WRITE BLOCK, from its chunks. -/
def Obligations.RequestCarriesRecord : Prop :=
  ∀ (t : Tag) (r : TagRecord) (b : BufferStore),
    ∃ w0 w1 : Word, ∃ payload : List Word,
      requestBody t r b = [w0, w1, r.address] ++ payload
        ∧ byteOfWord w0 0 = 0x10#8 ∧ (byteOfWord w0 1).toNat = t.val ∧ (byteOfWord w0 2).toNat = r.unit.val
        ∧ (byteOfWord w0 3).toNat = r.kind.code
        ∧ (byteOfWord w1 0).toNat = r.space.code ∧ (byteOfWord w1 1).toNat = r.laneMask.toNat
        ∧ (r.length < 256 → (byteOfWord w1 2).toNat = r.length) ∧ byteOfWord w1 3 = 0
        ∧ (r.kind = .read ∨ r.kind = .readBlock → payload = [])
        ∧ (r.kind = .write ∨ r.kind = .exchange → payload = [r.slot])
        ∧ (r.kind = .writeBlock →
          payload.length = r.length ∧ ∀ n, n < r.length → payload[n]? = some (readPlace r.chunkList n b))

/-- R37, R39, R41, R46: words placed from word n on are read back from their places as they were placed; no other word of
the tag and no chunk of another tag changes; and the pool's operations move exactly the chunks they name, no word being
changed. -/
def Obligations.PlacedWordsReadBack : Prop :=
  ∀ (b : BufferStore) (chunkList : List ChunkNo) (n : Nat) (words : List Word) (m : Nat) (c : ChunkNo),
    chunkList.Nodup → n + words.length ≤ 16 * chunkList.length →
    (∀ i w, words[i]? = some w → readPlace chunkList (n + i) (writePlaces chunkList n words b) = w)
      ∧ (m < n ∨ n + words.length ≤ m →
        readPlace chunkList m (writePlaces chunkList n words b) = readPlace chunkList m b)
      ∧ (c ∉ chunkList → (writePlaces chunkList n words b).chunks.get c = b.chunks.get c)
      ∧ (writePlaces chunkList n words b).free = b.free
      ∧ (putChunks chunkList b).chunks = b.chunks ∧ (takeChunks chunkList b).chunks = b.chunks
      ∧ ((putChunks chunkList b).free.get c = true ↔ b.free.get c = true ∨ c ∈ chunkList)
      ∧ ((takeChunks chunkList b).free.get c = true ↔ b.free.get c = true ∧ c ∉ chunkList)

/-- R12, R20, R22 to R26, R37, R42 to R44, R84, R98 to R100, R107, R132, R133, R140, R145, R151 to R155, Tables 9.7 to 9.9:
the values after power-on reset that the register map gives; and, in every state, each field of every register at its place,
every reserved bit 0: the result view is all 0 before the first record, the posted failure registers while the latch is
empty, the last word's half while the payload is empty, and the data ports with nothing left to read. Named values are shown
by the codes of Tables 9.8 and 9.9. A premise on a count is the count's range. -/
def Obligations.RegistersShowState : Prop :=
  ∀ (s : State) (f : PostedFailure) (c : CompletionRecord),
    let v := s.host.resultView
    let a := s.host.attnView
    let u := s.unit s.host.unitSel
    let e := s.events
    let l := s.link
    let g := s.staging
    let word (x : Tag) : Word :=
      if (s.tag x).kind = .readBlock ∨ (s.tag x).kind = .writeBlock then
        readPlace (s.tag x).chunkList s.host.readPointer s.store
      else (s.tag x).slot
    readRegister .resultCoalesce State.reset = 0x0001#16
      ∧ readRegister .linkCtrl State.reset = 0x0032#16 ∧ readRegister .linkTiming State.reset = 0x0019#16
      ∧ readRegister .unitTimeout State.reset = 0x04E2#16 ∧ readRegister .levelsA State.reset = 0x2040#16
      ∧ (∀ r ∉ [Reg.id, .resultCoalesce, .linkCtrl, .linkTiming, .unitTimeout, .levelsA],
        readRegister r State.reset = 0)
      ∧ (∀ p ∈ ([
          (.id, 0x6241), (.cmd, 0), (.cmdResult, s.host.cmdResult.code),
          (.events,
            e.result.toNat + 2 * (!s.attnQueue.isEmpty).toNat + 4 * e.link.toNat + 8 * e.unit.toNat + 16 * e.posted.toNat
              + 32 * e.proto.toNat + 64 * e.access.toNat),
          (.eventEn, e.enables.toNat), (.linkState, 2 ^ 8 * l.lastLoss.code + 2 ^ 4 * l.epoch.toNat + l.state.code),
          (.linkCtrl, 2 ^ 15 * l.autoRestart.toNat + l.trainingLimit.toNat), (.linkTiming, l.replayTimeout),
          (.rxErrors, l.rxErrors), (.replayCount, l.replayCount),
          (.stgCmd, 2 ^ 15 * g.posted.toNat + 2 ^ 8 * g.unit.val + 2 ^ 4 * g.space.code + g.kindCode.toNat),
          (.stgAddrH, g.address.toNat / 2 ^ 16), (.stgAddrL, g.address.toNat % 2 ^ 16),
          (.stgLenLanes, 2 ^ 8 * g.laneMask.toNat + g.length.toNat), (.stgDataH, s.host.highLatch.toNat),
          (.stgDataL, g.payload.getLast?.elim 0 (fun w => w.toNat % 2 ^ 16)), (.stgCount, g.payload.length),
          (.lastTag, s.lastTag.val), (.attnCause, a.cause.toNat), (.unitSel, s.host.unitSel.val),
          (.unitClass, u.classCode.toNat), (.unitTimeout, u.replyTimeout.toNat),
          (.unitCaps, 2 ^ 8 * u.maxBlock + u.spaces.toNat), (.unitMask, u.masked.toNat),
          (.postedOverflow, s.latch.overflow), (.protoErrors, e.protoErrors),
          (.levelsA,
            2 ^ 8 * (allTags.filter (fun t => (s.tag t).state = .free)).length
              + (allChunks.filter (fun c => s.store.free.get c)).length)] : List (Reg × Nat)),
        readRegister p.1 s = BitVec.ofNat 16 p.2)
      ∧ (e.threshold ≤ 32 → readRegister .resultCoalesce s = BitVec.ofNat 16 (2 ^ 8 * e.holdoff.toNat + e.threshold))
      ∧ (s.results.length ≤ 32 → s.attnQueue.length ≤ 16 →
        readRegister .levelsB s = BitVec.ofNat 16 (2 ^ 8 * s.results.length + s.attnQueue.length))
      ∧ (s.latch.record = some f →
        readRegister .postedFailA s
            = BitVec.ofNat 16 (2 ^ 15 + 2 ^ 10 * f.tag.val + 2 ^ 6 * f.unit.val + f.reason.code)
          ∧ (readRegister .postedFailAddrH s ++ readRegister .postedFailAddrL s : BitVec 32) = f.address)
      ∧ (s.latch.record = none →
        readRegister .postedFailA s = 0 ∧ readRegister .postedFailAddrH s = 0 ∧ readRegister .postedFailAddrL s = 0)
      ∧ (v.shown = some c →
        readRegister .resViewA s
            = BitVec.ofNat 16 (2 ^ 15 * v.valid.toNat + 2 ^ 8 * c.tag.val + 2 ^ 4 * c.outcome.code + c.executed.code)
          ∧ readRegister .resViewB s
            = BitVec.ofNat 16
              (2 ^ 15 * c.cancelRequested.toNat + 2 ^ 8 * (c.reason.elim 0 RefusalReason.code) + 2 ^ 4 * c.unit.val
                + c.kind.code)
          ∧ readRegister .resWords s = BitVec.ofNat 16 c.wordsDelivered)
      ∧ (v.shown = none → v.valid = false →
        readRegister .resViewA s = 0 ∧ readRegister .resViewB s = 0 ∧ readRegister .resWords s = 0)
      ∧ (∀ x, s.host.selected = some x → s.host.readPointer < s.host.readLimit →
        (readRegister .rdDataH s ++ readRegister .rdDataL s : BitVec 32) = word x)
      ∧ (s.host.selected = none ∨ s.host.readLimit ≤ s.host.readPointer →
        readRegister .rdDataH s = 0 ∧ readRegister .rdDataL s = 0)
      ∧ (a.count ≤ 255 →
        readRegister .attnView s = BitVec.ofNat 16 (2 ^ 15 * a.valid.toNat + 2 ^ 8 * a.unit.val + a.count))
      ∧ (u.creditLimit ≤ 15 → u.outstanding ≤ 15 →
        readRegister .unitInfo s = BitVec.ofNat 16 (2 ^ 15 * u.present.toNat + 2 ^ 8 * u.creditLimit + u.outstanding))
      ∧ [Kind.read, .write, .readBlock, .writeBlock, .exchange, .mark].map Kind.code = [1, 2, 3, 4, 5, 6]
      ∧ [Space.config, .register, .memory, .stream].map Space.code = [0, 1, 2, 3]
      ∧ [TxOutcome.ok, .short, .refused, .cancelled, .timeout, .lost, .linkLost, .unitGone, .protocol].map TxOutcome.code
        = [0, 1, 2, 3, 4, 5, 6, 7, 8]
      ∧ [Executed.no, .yes, .unknown].map Executed.code = [0, 1, 2]
      ∧ [RefusalReason.address, .access, .space, .length, .device, .cancelled].map RefusalReason.code = [1, 2, 3, 4, 5, 6]
      ∧ [PostedReason.address, .access, .space, .length, .device, .timeout, .lost, .linkLost, .unitGone, .protocol].map
          PostedReason.code
        = [0x01, 0x02, 0x03, 0x04, 0x05, 0x10, 0x11, 0x12, 0x13, 0x14]
      ∧ [LinkState.down, .training, .discovery, .up, .faulted].map LinkState.code = [0, 1, 2, 3, 4]
      ∧ [LossReason.none, .replayLimit, .signalLost, .farRestart, .discoveryTimeout, .hostStop, .trainLimit].map
          LossReason.code
        = [0, 1, 2, 3, 4, 5, 6]
      ∧ [CmdResult.done, .linkNotUp, .badKind, .noUnit, .space, .align, .range, .length, .lanes, .payload, .postedKind,
          .tagFull, .noBuffer, .badTag, .wrongState, .notPopped, .empty, .linkBusy, .badCode].map CmdResult.code
        = [0x00, 0x01, 0x02, 0x03, 0x04, 0x05, 0x06, 0x07, 0x08, 0x09, 0x0A, 0x0B, 0x0C, 0x10, 0x11, 0x12, 0x13, 0x14,
          0x1F]

/-! ## What holds at every instant -/

/-- R2, R11, R47 to R49, R54, R60: the dispatch queue, the order lists, the owed-cancel list and the result queue hold
exactly the tags the states say; a FREE tag's record is blank; no WAITING MARK stands first. -/
def Obligations.KeptListsAndResultQueue : Prop :=
  KeptByStep (fun s => ListsExact s ∧ ResultQueueExact s ∧ FreeTagsBlank s ∧ MarksReleased s)

/-- R2, R14, R54, R72, R74: the states that posted tags and MARKs may have, and where the two timers run. -/
def Obligations.KeptTagStatesAndTimers : Prop :=
  KeptByStep (fun s => StatesSound s ∧ ListsExact s ∧ TagTimersSound s)

/-- R37, R39, R67, R87: the chunks are accounted for, and every unit's outstanding count is the number of its tags owed a
final reply, within its credit limit. -/
def Obligations.KeptChunksAndCredits : Prop := KeptByStep ChunksAccounted ∧ KeptByStep CreditsExact

/-- R17, R87, R89: with the link not UP no tag is live or owed a reply; ABSENT units hold the ABSENT values, and outside
DISCOVERY and UP every unit is ABSENT. -/
def Obligations.KeptQuietUnlessUp : Prop := KeptByStep (fun s => QuietUnlessUp s ∧ DirectorySound s)

/-- R56, R115, R116, R120 to R122, R125, R126, R129, R130: the send side, the receive side and the link timers; and the model's mark that a link
loss stands, set in FAULTED, clear outside DOWN and FAULTED (log entry 16). -/
def Obligations.KeptLinkSound : Prop := KeptByStep (fun s => SendSideSound s ∧ LinkTimersSound s)

/-- R44, R45, R101, R153 to R155 and the ranges of the tables: the selection, the attention records, the counts and
settings, the lengths, and RESULT. -/
def Obligations.KeptSelectionAttentionsCounts : Prop :=
  KeptByStep SelectionSound ∧ KeptByStep AttentionsSound ∧ KeptByStep CountsInRange ∧ KeptByStep LengthsInRange
    ∧ KeptByStep ResultFlagSound

/-- The state after reset meets every condition that the statements take as a premise or say is kept. -/
def Obligations.InvariantsHoldAtReset : Prop :=
  ListsExact State.reset ∧ ResultQueueExact State.reset ∧ FreeTagsBlank State.reset ∧ MarksReleased State.reset
    ∧ StatesSound State.reset ∧ TagTimersSound State.reset ∧ ChunksAccounted State.reset ∧ CreditsExact State.reset
    ∧ QuietUnlessUp State.reset ∧ DirectorySound State.reset ∧ SendSideSound State.reset ∧ LinkTimersSound State.reset
    ∧ SelectionSound State.reset ∧ AttentionsSound State.reset ∧ CountsInRange State.reset ∧ LengthsInRange State.reset
    ∧ ResultFlagSound State.reset
end

