-- ==== Sys2Proof/Laws/State.lean ====
section
/-! SUPPORT. One lemma for each field of State and each named update of Machine/Ops.lean: what the field is after it. Every
one holds by rfl, so that no proof unfolds an update. -/

namespace Sys2Proof.Machine

/-! ## updTag -/

@[simp] theorem updTag_pending (t : Tag) (f : TagRecord → TagRecord) (s : State) : (updTag t f s).pending = s.pending := rfl
@[simp] theorem updTag_resetAsserted (t : Tag) (f : TagRecord → TagRecord) (s : State) :
    (updTag t f s).resetAsserted = s.resetAsserted := rfl
@[simp] theorem updTag_host (t : Tag) (f : TagRecord → TagRecord) (s : State) : (updTag t f s).host = s.host := rfl
@[simp] theorem updTag_staging (t : Tag) (f : TagRecord → TagRecord) (s : State) : (updTag t f s).staging = s.staging := rfl
@[simp] theorem updTag_tags (t : Tag) (f : TagRecord → TagRecord) (s : State) :
    (updTag t f s).tags = s.tags.set t (f (s.tag t)) := rfl
@[simp] theorem updTag_results (t : Tag) (f : TagRecord → TagRecord) (s : State) : (updTag t f s).results = s.results := rfl
@[simp] theorem updTag_lastTag (t : Tag) (f : TagRecord → TagRecord) (s : State) : (updTag t f s).lastTag = s.lastTag := rfl
@[simp] theorem updTag_store (t : Tag) (f : TagRecord → TagRecord) (s : State) : (updTag t f s).store = s.store := rfl
@[simp] theorem updTag_dispatchQueue (t : Tag) (f : TagRecord → TagRecord) (s : State) :
    (updTag t f s).dispatchQueue = s.dispatchQueue := rfl
@[simp] theorem updTag_owedCancels (t : Tag) (f : TagRecord → TagRecord) (s : State) :
    (updTag t f s).owedCancels = s.owedCancels := rfl
@[simp] theorem updTag_latch (t : Tag) (f : TagRecord → TagRecord) (s : State) : (updTag t f s).latch = s.latch := rfl
@[simp] theorem updTag_units (t : Tag) (f : TagRecord → TagRecord) (s : State) : (updTag t f s).units = s.units := rfl
@[simp] theorem updTag_attnQueue (t : Tag) (f : TagRecord → TagRecord) (s : State) :
    (updTag t f s).attnQueue = s.attnQueue := rfl
@[simp] theorem updTag_link (t : Tag) (f : TagRecord → TagRecord) (s : State) : (updTag t f s).link = s.link := rfl
@[simp] theorem updTag_events (t : Tag) (f : TagRecord → TagRecord) (s : State) : (updTag t f s).events = s.events := rfl
@[simp] theorem updTag_unit (t : Tag) (f : TagRecord → TagRecord) (s : State) (v : UnitNo) :
    (updTag t f s).unit v = s.unit v := rfl

/-! ## updUnit -/

@[simp] theorem updUnit_pending (u : UnitNo) (f : UnitRecord → UnitRecord) (s : State) :
    (updUnit u f s).pending = s.pending := rfl
@[simp] theorem updUnit_resetAsserted (u : UnitNo) (f : UnitRecord → UnitRecord) (s : State) :
    (updUnit u f s).resetAsserted = s.resetAsserted := rfl
@[simp] theorem updUnit_host (u : UnitNo) (f : UnitRecord → UnitRecord) (s : State) : (updUnit u f s).host = s.host := rfl
@[simp] theorem updUnit_staging (u : UnitNo) (f : UnitRecord → UnitRecord) (s : State) :
    (updUnit u f s).staging = s.staging := rfl
@[simp] theorem updUnit_tags (u : UnitNo) (f : UnitRecord → UnitRecord) (s : State) : (updUnit u f s).tags = s.tags := rfl
@[simp] theorem updUnit_results (u : UnitNo) (f : UnitRecord → UnitRecord) (s : State) :
    (updUnit u f s).results = s.results := rfl
@[simp] theorem updUnit_lastTag (u : UnitNo) (f : UnitRecord → UnitRecord) (s : State) :
    (updUnit u f s).lastTag = s.lastTag := rfl
@[simp] theorem updUnit_store (u : UnitNo) (f : UnitRecord → UnitRecord) (s : State) : (updUnit u f s).store = s.store := rfl
@[simp] theorem updUnit_dispatchQueue (u : UnitNo) (f : UnitRecord → UnitRecord) (s : State) :
    (updUnit u f s).dispatchQueue = s.dispatchQueue := rfl
@[simp] theorem updUnit_owedCancels (u : UnitNo) (f : UnitRecord → UnitRecord) (s : State) :
    (updUnit u f s).owedCancels = s.owedCancels := rfl
@[simp] theorem updUnit_latch (u : UnitNo) (f : UnitRecord → UnitRecord) (s : State) : (updUnit u f s).latch = s.latch := rfl
@[simp] theorem updUnit_units (u : UnitNo) (f : UnitRecord → UnitRecord) (s : State) :
    (updUnit u f s).units = s.units.set u (f (s.unit u)) := rfl
@[simp] theorem updUnit_attnQueue (u : UnitNo) (f : UnitRecord → UnitRecord) (s : State) :
    (updUnit u f s).attnQueue = s.attnQueue := rfl
@[simp] theorem updUnit_link (u : UnitNo) (f : UnitRecord → UnitRecord) (s : State) : (updUnit u f s).link = s.link := rfl
@[simp] theorem updUnit_events (u : UnitNo) (f : UnitRecord → UnitRecord) (s : State) : (updUnit u f s).events = s.events := rfl
@[simp] theorem updUnit_tag (u : UnitNo) (f : UnitRecord → UnitRecord) (s : State) (x : Tag) :
    (updUnit u f s).tag x = s.tag x := rfl

/-! ## updUnits -/

@[simp] theorem updUnits_pending (f : UnitRecord → UnitRecord) (s : State) : (updUnits f s).pending = s.pending := rfl
@[simp] theorem updUnits_resetAsserted (f : UnitRecord → UnitRecord) (s : State) :
    (updUnits f s).resetAsserted = s.resetAsserted := rfl
@[simp] theorem updUnits_host (f : UnitRecord → UnitRecord) (s : State) : (updUnits f s).host = s.host := rfl
@[simp] theorem updUnits_staging (f : UnitRecord → UnitRecord) (s : State) : (updUnits f s).staging = s.staging := rfl
@[simp] theorem updUnits_tags (f : UnitRecord → UnitRecord) (s : State) : (updUnits f s).tags = s.tags := rfl
@[simp] theorem updUnits_results (f : UnitRecord → UnitRecord) (s : State) : (updUnits f s).results = s.results := rfl
@[simp] theorem updUnits_lastTag (f : UnitRecord → UnitRecord) (s : State) : (updUnits f s).lastTag = s.lastTag := rfl
@[simp] theorem updUnits_store (f : UnitRecord → UnitRecord) (s : State) : (updUnits f s).store = s.store := rfl
@[simp] theorem updUnits_dispatchQueue (f : UnitRecord → UnitRecord) (s : State) :
    (updUnits f s).dispatchQueue = s.dispatchQueue := rfl
@[simp] theorem updUnits_owedCancels (f : UnitRecord → UnitRecord) (s : State) :
    (updUnits f s).owedCancels = s.owedCancels := rfl
@[simp] theorem updUnits_latch (f : UnitRecord → UnitRecord) (s : State) : (updUnits f s).latch = s.latch := rfl
@[simp] theorem updUnits_units (f : UnitRecord → UnitRecord) (s : State) : (updUnits f s).units = mapTable f s.units := rfl
@[simp] theorem updUnits_attnQueue (f : UnitRecord → UnitRecord) (s : State) : (updUnits f s).attnQueue = s.attnQueue := rfl
@[simp] theorem updUnits_link (f : UnitRecord → UnitRecord) (s : State) : (updUnits f s).link = s.link := rfl
@[simp] theorem updUnits_events (f : UnitRecord → UnitRecord) (s : State) : (updUnits f s).events = s.events := rfl
@[simp] theorem updUnits_tag (f : UnitRecord → UnitRecord) (s : State) (x : Tag) : (updUnits f s).tag x = s.tag x := rfl

/-! ## updLink -/

@[simp] theorem updLink_pending (f : Link → Link) (s : State) : (updLink f s).pending = s.pending := rfl
@[simp] theorem updLink_resetAsserted (f : Link → Link) (s : State) : (updLink f s).resetAsserted = s.resetAsserted := rfl
@[simp] theorem updLink_host (f : Link → Link) (s : State) : (updLink f s).host = s.host := rfl
@[simp] theorem updLink_staging (f : Link → Link) (s : State) : (updLink f s).staging = s.staging := rfl
@[simp] theorem updLink_tags (f : Link → Link) (s : State) : (updLink f s).tags = s.tags := rfl
@[simp] theorem updLink_results (f : Link → Link) (s : State) : (updLink f s).results = s.results := rfl
@[simp] theorem updLink_lastTag (f : Link → Link) (s : State) : (updLink f s).lastTag = s.lastTag := rfl
@[simp] theorem updLink_store (f : Link → Link) (s : State) : (updLink f s).store = s.store := rfl
@[simp] theorem updLink_dispatchQueue (f : Link → Link) (s : State) : (updLink f s).dispatchQueue = s.dispatchQueue := rfl
@[simp] theorem updLink_owedCancels (f : Link → Link) (s : State) : (updLink f s).owedCancels = s.owedCancels := rfl
@[simp] theorem updLink_latch (f : Link → Link) (s : State) : (updLink f s).latch = s.latch := rfl
@[simp] theorem updLink_units (f : Link → Link) (s : State) : (updLink f s).units = s.units := rfl
@[simp] theorem updLink_attnQueue (f : Link → Link) (s : State) : (updLink f s).attnQueue = s.attnQueue := rfl
@[simp] theorem updLink_link (f : Link → Link) (s : State) : (updLink f s).link = f s.link := rfl
@[simp] theorem updLink_events (f : Link → Link) (s : State) : (updLink f s).events = s.events := rfl
@[simp] theorem updLink_tag (f : Link → Link) (s : State) (x : Tag) : (updLink f s).tag x = s.tag x := rfl
@[simp] theorem updLink_unit (f : Link → Link) (s : State) (v : UnitNo) : (updLink f s).unit v = s.unit v := rfl

/-! ## updSend -/

@[simp] theorem updSend_pending (f : SendSide → SendSide) (s : State) : (updSend f s).pending = s.pending := rfl
@[simp] theorem updSend_resetAsserted (f : SendSide → SendSide) (s : State) :
    (updSend f s).resetAsserted = s.resetAsserted := rfl
@[simp] theorem updSend_host (f : SendSide → SendSide) (s : State) : (updSend f s).host = s.host := rfl
@[simp] theorem updSend_staging (f : SendSide → SendSide) (s : State) : (updSend f s).staging = s.staging := rfl
@[simp] theorem updSend_tags (f : SendSide → SendSide) (s : State) : (updSend f s).tags = s.tags := rfl
@[simp] theorem updSend_results (f : SendSide → SendSide) (s : State) : (updSend f s).results = s.results := rfl
@[simp] theorem updSend_lastTag (f : SendSide → SendSide) (s : State) : (updSend f s).lastTag = s.lastTag := rfl
@[simp] theorem updSend_store (f : SendSide → SendSide) (s : State) : (updSend f s).store = s.store := rfl
@[simp] theorem updSend_dispatchQueue (f : SendSide → SendSide) (s : State) :
    (updSend f s).dispatchQueue = s.dispatchQueue := rfl
@[simp] theorem updSend_owedCancels (f : SendSide → SendSide) (s : State) : (updSend f s).owedCancels = s.owedCancels := rfl
@[simp] theorem updSend_latch (f : SendSide → SendSide) (s : State) : (updSend f s).latch = s.latch := rfl
@[simp] theorem updSend_units (f : SendSide → SendSide) (s : State) : (updSend f s).units = s.units := rfl
@[simp] theorem updSend_attnQueue (f : SendSide → SendSide) (s : State) : (updSend f s).attnQueue = s.attnQueue := rfl
@[simp] theorem updSend_link (f : SendSide → SendSide) (s : State) :
    (updSend f s).link = { s.link with send := f s.link.send } := rfl
@[simp] theorem updSend_events (f : SendSide → SendSide) (s : State) : (updSend f s).events = s.events := rfl
@[simp] theorem updSend_tag (f : SendSide → SendSide) (s : State) (x : Tag) : (updSend f s).tag x = s.tag x := rfl
@[simp] theorem updSend_unit (f : SendSide → SendSide) (s : State) (v : UnitNo) : (updSend f s).unit v = s.unit v := rfl

/-! ## updRecv -/

@[simp] theorem updRecv_pending (f : ReceiveSide → ReceiveSide) (s : State) : (updRecv f s).pending = s.pending := rfl
@[simp] theorem updRecv_resetAsserted (f : ReceiveSide → ReceiveSide) (s : State) :
    (updRecv f s).resetAsserted = s.resetAsserted := rfl
@[simp] theorem updRecv_host (f : ReceiveSide → ReceiveSide) (s : State) : (updRecv f s).host = s.host := rfl
@[simp] theorem updRecv_staging (f : ReceiveSide → ReceiveSide) (s : State) : (updRecv f s).staging = s.staging := rfl
@[simp] theorem updRecv_tags (f : ReceiveSide → ReceiveSide) (s : State) : (updRecv f s).tags = s.tags := rfl
@[simp] theorem updRecv_results (f : ReceiveSide → ReceiveSide) (s : State) : (updRecv f s).results = s.results := rfl
@[simp] theorem updRecv_lastTag (f : ReceiveSide → ReceiveSide) (s : State) : (updRecv f s).lastTag = s.lastTag := rfl
@[simp] theorem updRecv_store (f : ReceiveSide → ReceiveSide) (s : State) : (updRecv f s).store = s.store := rfl
@[simp] theorem updRecv_dispatchQueue (f : ReceiveSide → ReceiveSide) (s : State) :
    (updRecv f s).dispatchQueue = s.dispatchQueue := rfl
@[simp] theorem updRecv_owedCancels (f : ReceiveSide → ReceiveSide) (s : State) :
    (updRecv f s).owedCancels = s.owedCancels := rfl
@[simp] theorem updRecv_latch (f : ReceiveSide → ReceiveSide) (s : State) : (updRecv f s).latch = s.latch := rfl
@[simp] theorem updRecv_units (f : ReceiveSide → ReceiveSide) (s : State) : (updRecv f s).units = s.units := rfl
@[simp] theorem updRecv_attnQueue (f : ReceiveSide → ReceiveSide) (s : State) : (updRecv f s).attnQueue = s.attnQueue := rfl
@[simp] theorem updRecv_link (f : ReceiveSide → ReceiveSide) (s : State) :
    (updRecv f s).link = { s.link with recv := f s.link.recv } := rfl
@[simp] theorem updRecv_events (f : ReceiveSide → ReceiveSide) (s : State) : (updRecv f s).events = s.events := rfl
@[simp] theorem updRecv_tag (f : ReceiveSide → ReceiveSide) (s : State) (x : Tag) : (updRecv f s).tag x = s.tag x := rfl
@[simp] theorem updRecv_unit (f : ReceiveSide → ReceiveSide) (s : State) (v : UnitNo) : (updRecv f s).unit v = s.unit v := rfl

/-! ## updEvents -/

@[simp] theorem updEvents_pending (f : EventUnit → EventUnit) (s : State) : (updEvents f s).pending = s.pending := rfl
@[simp] theorem updEvents_resetAsserted (f : EventUnit → EventUnit) (s : State) :
    (updEvents f s).resetAsserted = s.resetAsserted := rfl
@[simp] theorem updEvents_host (f : EventUnit → EventUnit) (s : State) : (updEvents f s).host = s.host := rfl
@[simp] theorem updEvents_staging (f : EventUnit → EventUnit) (s : State) : (updEvents f s).staging = s.staging := rfl
@[simp] theorem updEvents_tags (f : EventUnit → EventUnit) (s : State) : (updEvents f s).tags = s.tags := rfl
@[simp] theorem updEvents_results (f : EventUnit → EventUnit) (s : State) : (updEvents f s).results = s.results := rfl
@[simp] theorem updEvents_lastTag (f : EventUnit → EventUnit) (s : State) : (updEvents f s).lastTag = s.lastTag := rfl
@[simp] theorem updEvents_store (f : EventUnit → EventUnit) (s : State) : (updEvents f s).store = s.store := rfl
@[simp] theorem updEvents_dispatchQueue (f : EventUnit → EventUnit) (s : State) :
    (updEvents f s).dispatchQueue = s.dispatchQueue := rfl
@[simp] theorem updEvents_owedCancels (f : EventUnit → EventUnit) (s : State) :
    (updEvents f s).owedCancels = s.owedCancels := rfl
@[simp] theorem updEvents_latch (f : EventUnit → EventUnit) (s : State) : (updEvents f s).latch = s.latch := rfl
@[simp] theorem updEvents_units (f : EventUnit → EventUnit) (s : State) : (updEvents f s).units = s.units := rfl
@[simp] theorem updEvents_attnQueue (f : EventUnit → EventUnit) (s : State) : (updEvents f s).attnQueue = s.attnQueue := rfl
@[simp] theorem updEvents_link (f : EventUnit → EventUnit) (s : State) : (updEvents f s).link = s.link := rfl
@[simp] theorem updEvents_events (f : EventUnit → EventUnit) (s : State) : (updEvents f s).events = f s.events := rfl
@[simp] theorem updEvents_tag (f : EventUnit → EventUnit) (s : State) (x : Tag) : (updEvents f s).tag x = s.tag x := rfl
@[simp] theorem updEvents_unit (f : EventUnit → EventUnit) (s : State) (v : UnitNo) : (updEvents f s).unit v = s.unit v := rfl

/-! ## updHost -/

@[simp] theorem updHost_pending (f : HostPort → HostPort) (s : State) : (updHost f s).pending = s.pending := rfl
@[simp] theorem updHost_resetAsserted (f : HostPort → HostPort) (s : State) :
    (updHost f s).resetAsserted = s.resetAsserted := rfl
@[simp] theorem updHost_host (f : HostPort → HostPort) (s : State) : (updHost f s).host = f s.host := rfl
@[simp] theorem updHost_staging (f : HostPort → HostPort) (s : State) : (updHost f s).staging = s.staging := rfl
@[simp] theorem updHost_tags (f : HostPort → HostPort) (s : State) : (updHost f s).tags = s.tags := rfl
@[simp] theorem updHost_results (f : HostPort → HostPort) (s : State) : (updHost f s).results = s.results := rfl
@[simp] theorem updHost_lastTag (f : HostPort → HostPort) (s : State) : (updHost f s).lastTag = s.lastTag := rfl
@[simp] theorem updHost_store (f : HostPort → HostPort) (s : State) : (updHost f s).store = s.store := rfl
@[simp] theorem updHost_dispatchQueue (f : HostPort → HostPort) (s : State) :
    (updHost f s).dispatchQueue = s.dispatchQueue := rfl
@[simp] theorem updHost_owedCancels (f : HostPort → HostPort) (s : State) : (updHost f s).owedCancels = s.owedCancels := rfl
@[simp] theorem updHost_latch (f : HostPort → HostPort) (s : State) : (updHost f s).latch = s.latch := rfl
@[simp] theorem updHost_units (f : HostPort → HostPort) (s : State) : (updHost f s).units = s.units := rfl
@[simp] theorem updHost_attnQueue (f : HostPort → HostPort) (s : State) : (updHost f s).attnQueue = s.attnQueue := rfl
@[simp] theorem updHost_link (f : HostPort → HostPort) (s : State) : (updHost f s).link = s.link := rfl
@[simp] theorem updHost_events (f : HostPort → HostPort) (s : State) : (updHost f s).events = s.events := rfl
@[simp] theorem updHost_tag (f : HostPort → HostPort) (s : State) (x : Tag) : (updHost f s).tag x = s.tag x := rfl
@[simp] theorem updHost_unit (f : HostPort → HostPort) (s : State) (v : UnitNo) : (updHost f s).unit v = s.unit v := rfl

/-! ## updStaging -/

@[simp] theorem updStaging_pending (f : Staging → Staging) (s : State) : (updStaging f s).pending = s.pending := rfl
@[simp] theorem updStaging_resetAsserted (f : Staging → Staging) (s : State) :
    (updStaging f s).resetAsserted = s.resetAsserted := rfl
@[simp] theorem updStaging_host (f : Staging → Staging) (s : State) : (updStaging f s).host = s.host := rfl
@[simp] theorem updStaging_staging (f : Staging → Staging) (s : State) : (updStaging f s).staging = f s.staging := rfl
@[simp] theorem updStaging_tags (f : Staging → Staging) (s : State) : (updStaging f s).tags = s.tags := rfl
@[simp] theorem updStaging_results (f : Staging → Staging) (s : State) : (updStaging f s).results = s.results := rfl
@[simp] theorem updStaging_lastTag (f : Staging → Staging) (s : State) : (updStaging f s).lastTag = s.lastTag := rfl
@[simp] theorem updStaging_store (f : Staging → Staging) (s : State) : (updStaging f s).store = s.store := rfl
@[simp] theorem updStaging_dispatchQueue (f : Staging → Staging) (s : State) :
    (updStaging f s).dispatchQueue = s.dispatchQueue := rfl
@[simp] theorem updStaging_owedCancels (f : Staging → Staging) (s : State) : (updStaging f s).owedCancels = s.owedCancels := rfl
@[simp] theorem updStaging_latch (f : Staging → Staging) (s : State) : (updStaging f s).latch = s.latch := rfl
@[simp] theorem updStaging_units (f : Staging → Staging) (s : State) : (updStaging f s).units = s.units := rfl
@[simp] theorem updStaging_attnQueue (f : Staging → Staging) (s : State) : (updStaging f s).attnQueue = s.attnQueue := rfl
@[simp] theorem updStaging_link (f : Staging → Staging) (s : State) : (updStaging f s).link = s.link := rfl
@[simp] theorem updStaging_events (f : Staging → Staging) (s : State) : (updStaging f s).events = s.events := rfl
@[simp] theorem updStaging_tag (f : Staging → Staging) (s : State) (x : Tag) : (updStaging f s).tag x = s.tag x := rfl
@[simp] theorem updStaging_unit (f : Staging → Staging) (s : State) (v : UnitNo) : (updStaging f s).unit v = s.unit v := rfl

/-! ## updStore -/

@[simp] theorem updStore_pending (f : BufferStore → BufferStore) (s : State) : (updStore f s).pending = s.pending := rfl
@[simp] theorem updStore_resetAsserted (f : BufferStore → BufferStore) (s : State) :
    (updStore f s).resetAsserted = s.resetAsserted := rfl
@[simp] theorem updStore_host (f : BufferStore → BufferStore) (s : State) : (updStore f s).host = s.host := rfl
@[simp] theorem updStore_staging (f : BufferStore → BufferStore) (s : State) : (updStore f s).staging = s.staging := rfl
@[simp] theorem updStore_tags (f : BufferStore → BufferStore) (s : State) : (updStore f s).tags = s.tags := rfl
@[simp] theorem updStore_results (f : BufferStore → BufferStore) (s : State) : (updStore f s).results = s.results := rfl
@[simp] theorem updStore_lastTag (f : BufferStore → BufferStore) (s : State) : (updStore f s).lastTag = s.lastTag := rfl
@[simp] theorem updStore_store (f : BufferStore → BufferStore) (s : State) : (updStore f s).store = f s.store := rfl
@[simp] theorem updStore_dispatchQueue (f : BufferStore → BufferStore) (s : State) :
    (updStore f s).dispatchQueue = s.dispatchQueue := rfl
@[simp] theorem updStore_owedCancels (f : BufferStore → BufferStore) (s : State) :
    (updStore f s).owedCancels = s.owedCancels := rfl
@[simp] theorem updStore_latch (f : BufferStore → BufferStore) (s : State) : (updStore f s).latch = s.latch := rfl
@[simp] theorem updStore_units (f : BufferStore → BufferStore) (s : State) : (updStore f s).units = s.units := rfl
@[simp] theorem updStore_attnQueue (f : BufferStore → BufferStore) (s : State) : (updStore f s).attnQueue = s.attnQueue := rfl
@[simp] theorem updStore_link (f : BufferStore → BufferStore) (s : State) : (updStore f s).link = s.link := rfl
@[simp] theorem updStore_events (f : BufferStore → BufferStore) (s : State) : (updStore f s).events = s.events := rfl
@[simp] theorem updStore_tag (f : BufferStore → BufferStore) (s : State) (x : Tag) : (updStore f s).tag x = s.tag x := rfl
@[simp] theorem updStore_unit (f : BufferStore → BufferStore) (s : State) (v : UnitNo) : (updStore f s).unit v = s.unit v := rfl

/-! ## setResult -/

@[simp] theorem setResult_pending (r : CmdResult) (s : State) : (setResult r s).pending = s.pending := rfl
@[simp] theorem setResult_resetAsserted (r : CmdResult) (s : State) : (setResult r s).resetAsserted = s.resetAsserted := rfl
@[simp] theorem setResult_host (r : CmdResult) (s : State) : (setResult r s).host = { s.host with cmdResult := r } := rfl
@[simp] theorem setResult_staging (r : CmdResult) (s : State) : (setResult r s).staging = s.staging := rfl
@[simp] theorem setResult_tags (r : CmdResult) (s : State) : (setResult r s).tags = s.tags := rfl
@[simp] theorem setResult_results (r : CmdResult) (s : State) : (setResult r s).results = s.results := rfl
@[simp] theorem setResult_lastTag (r : CmdResult) (s : State) : (setResult r s).lastTag = s.lastTag := rfl
@[simp] theorem setResult_store (r : CmdResult) (s : State) : (setResult r s).store = s.store := rfl
@[simp] theorem setResult_dispatchQueue (r : CmdResult) (s : State) : (setResult r s).dispatchQueue = s.dispatchQueue := rfl
@[simp] theorem setResult_owedCancels (r : CmdResult) (s : State) : (setResult r s).owedCancels = s.owedCancels := rfl
@[simp] theorem setResult_latch (r : CmdResult) (s : State) : (setResult r s).latch = s.latch := rfl
@[simp] theorem setResult_units (r : CmdResult) (s : State) : (setResult r s).units = s.units := rfl
@[simp] theorem setResult_attnQueue (r : CmdResult) (s : State) : (setResult r s).attnQueue = s.attnQueue := rfl
@[simp] theorem setResult_link (r : CmdResult) (s : State) : (setResult r s).link = s.link := rfl
@[simp] theorem setResult_events (r : CmdResult) (s : State) : (setResult r s).events = s.events := rfl
@[simp] theorem setResult_tag (r : CmdResult) (s : State) (x : Tag) : (setResult r s).tag x = s.tag x := rfl
@[simp] theorem setResult_unit (r : CmdResult) (s : State) (v : UnitNo) : (setResult r s).unit v = s.unit v := rfl

/-! ## transmit -/

@[simp] theorem transmit_pending (bytes : List Byte) (s : State) : (transmit bytes s).pending = s.pending := rfl
@[simp] theorem transmit_resetAsserted (bytes : List Byte) (s : State) :
    (transmit bytes s).resetAsserted = s.resetAsserted := rfl
@[simp] theorem transmit_host (bytes : List Byte) (s : State) : (transmit bytes s).host = s.host := rfl
@[simp] theorem transmit_staging (bytes : List Byte) (s : State) : (transmit bytes s).staging = s.staging := rfl
@[simp] theorem transmit_tags (bytes : List Byte) (s : State) : (transmit bytes s).tags = s.tags := rfl
@[simp] theorem transmit_results (bytes : List Byte) (s : State) : (transmit bytes s).results = s.results := rfl
@[simp] theorem transmit_lastTag (bytes : List Byte) (s : State) : (transmit bytes s).lastTag = s.lastTag := rfl
@[simp] theorem transmit_store (bytes : List Byte) (s : State) : (transmit bytes s).store = s.store := rfl
@[simp] theorem transmit_dispatchQueue (bytes : List Byte) (s : State) :
    (transmit bytes s).dispatchQueue = s.dispatchQueue := rfl
@[simp] theorem transmit_owedCancels (bytes : List Byte) (s : State) : (transmit bytes s).owedCancels = s.owedCancels := rfl
@[simp] theorem transmit_latch (bytes : List Byte) (s : State) : (transmit bytes s).latch = s.latch := rfl
@[simp] theorem transmit_units (bytes : List Byte) (s : State) : (transmit bytes s).units = s.units := rfl
@[simp] theorem transmit_attnQueue (bytes : List Byte) (s : State) : (transmit bytes s).attnQueue = s.attnQueue := rfl
@[simp] theorem transmit_link (bytes : List Byte) (s : State) :
    (transmit bytes s).link = { s.link with transmitter := some bytes } := rfl
@[simp] theorem transmit_events (bytes : List Byte) (s : State) : (transmit bytes s).events = s.events := rfl
@[simp] theorem transmit_tag (bytes : List Byte) (s : State) (x : Tag) : (transmit bytes s).tag x = s.tag x := rfl
@[simp] theorem transmit_unit (bytes : List Byte) (s : State) (v : UnitNo) : (transmit bytes s).unit v = s.unit v := rfl

end Sys2Proof.Machine
end

