-- ==== Sys2Proof/Laws/Tables.lean ====
section
/-! SUPPORT. The records of the tag table and the unit directory after an update: the updated record is the new one and
every other is as it was. -/

namespace Sys2Proof.Machine

@[simp] theorem mem_allTags (t : Tag) : t ∈ allTags := List.mem_finRange t

@[simp] theorem mem_allUnits (u : UnitNo) : u ∈ allUnits := List.mem_finRange u

@[simp] theorem mem_allChunks (c : ChunkNo) : c ∈ allChunks := List.mem_finRange c

theorem nodup_allTags : allTags.Nodup := List.nodup_finRange 32

theorem nodup_allUnits : allUnits.Nodup := List.nodup_finRange 16

theorem nodup_allChunks : allChunks.Nodup := List.nodup_finRange 64

/-! ## One entry of a table -/

/-- An entry of a table after one entry was set. -/
theorem get_set {α : Type} {n : Nat} (v : Vector α n) (i x : Fin n) (a : α) :
    (v.set i a).get x = if x = i then a else v.get x := by
  simp only [Vector.get_eq_getElem]
  rw [Vector.getElem_set]
  by_cases h : x = i
  · simp [h]
  · have : (i : Nat) ≠ x := fun e => h (Fin.ext e.symm)
    simp [h, this]

/-- An entry of a table after f was done to every entry. -/
theorem get_mapTable {α : Type} {n : Nat} (f : α → α) (v : Vector α n) (i : Fin n) :
    (mapTable f v).get i = f (v.get i) := by
  simp only [Vector.get_eq_getElem, mapTable]
  simp

/-! ## Tags -/

/-- A tag's record after one tag was updated. -/
theorem tag_updTag (t x : Tag) (f : TagRecord → TagRecord) (s : State) :
    (updTag t f s).tag x = if x = t then f (s.tag t) else s.tag x := get_set s.tags t x _

@[simp] theorem tag_updTag_self (t : Tag) (f : TagRecord → TagRecord) (s : State) : (updTag t f s).tag t = f (s.tag t) := by
  simp [tag_updTag]

theorem tag_updTag_of_ne {t x : Tag} (h : x ≠ t) (f : TagRecord → TagRecord) (s : State) :
    (updTag t f s).tag x = s.tag x := by
  simp [tag_updTag, h]

/-- What an update keeps of a tag's record, it keeps of every tag's. -/
theorem tag_updTag_proj {α : Type} (p : TagRecord → α) (t x : Tag) (f : TagRecord → TagRecord) (s : State)
    (h : p (f (s.tag t)) = p (s.tag t)) : p ((updTag t f s).tag x) = p (s.tag x) := by
  rw [tag_updTag]
  split
  · next e => rw [e, h]
  · rfl

/-! ## Units -/

/-- A unit's record after one unit was updated. -/
theorem unit_updUnit (u v : UnitNo) (f : UnitRecord → UnitRecord) (s : State) :
    (updUnit u f s).unit v = if v = u then f (s.unit u) else s.unit v := get_set s.units u v _

@[simp] theorem unit_updUnit_self (u : UnitNo) (f : UnitRecord → UnitRecord) (s : State) :
    (updUnit u f s).unit u = f (s.unit u) := by
  simp [unit_updUnit]

theorem unit_updUnit_of_ne {u v : UnitNo} (h : v ≠ u) (f : UnitRecord → UnitRecord) (s : State) :
    (updUnit u f s).unit v = s.unit v := by
  simp [unit_updUnit, h]

/-- What an update keeps of a unit's record, it keeps of every unit's. -/
theorem unit_updUnit_proj {α : Type} (p : UnitRecord → α) (u v : UnitNo) (f : UnitRecord → UnitRecord) (s : State)
    (h : p (f (s.unit u)) = p (s.unit u)) : p ((updUnit u f s).unit v) = p (s.unit v) := by
  rw [unit_updUnit]
  split
  · next e => rw [e, h]
  · rfl

/-- A unit's record after every unit was updated. -/
@[simp] theorem unit_updUnits (f : UnitRecord → UnitRecord) (s : State) (v : UnitNo) :
    (updUnits f s).unit v = f (s.unit v) := get_mapTable f s.units v

/-! ## The reset state -/

/-- Right after reset every tag's record is blank. -/
@[simp] theorem tag_reset (t : Tag) : State.reset.tag t = {} := by
  simp [State.tag, State.reset, Vector.get_eq_getElem]

/-- Right after reset every unit's record holds its power-on values. -/
@[simp] theorem unit_reset (u : UnitNo) : State.reset.unit u = {} := by
  simp [State.unit, State.reset, Vector.get_eq_getElem]

end Sys2Proof.Machine
end

