-- ==== Sys2Proof/Laws/Store.lean ====
section
/-! SUPPORT. The buffer store: one word read after one word was written, and the pool after chunks were taken out of it or
put back. -/

namespace Sys2Proof.Machine

/-! ## Chunks and their words -/

/-- A chunk after a word was written. -/
theorem chunks_writeChunk (c x : ChunkNo) (p : Fin 16) (w : Word) (b : BufferStore) :
    (writeChunk c p w b).chunks.get x = if x = c then (b.chunks.get c).set p w else b.chunks.get x :=
  get_set b.chunks c x _

/-- A word of a chunk after a word was written. -/
theorem readChunk_writeChunk (c x : ChunkNo) (p q : Fin 16) (w : Word) (b : BufferStore) :
    readChunk x q (writeChunk c p w b) = if x = c ∧ q = p then w else readChunk x q b := by
  unfold readChunk
  rw [chunks_writeChunk]
  by_cases h : x = c
  · subst h
    simp [get_set]
  · simp [h]

@[simp] theorem free_writeChunk (c : ChunkNo) (p : Fin 16) (w : Word) (b : BufferStore) :
    (writeChunk c p w b).free = b.free := rfl

@[simp] theorem free_writePlace (chunkList : List ChunkNo) (n : Nat) (w : Word) (b : BufferStore) :
    (writePlace chunkList n w b).free = b.free := by
  unfold writePlace
  split <;> rfl

/-- A chunk that is not on the list keeps its words. -/
theorem chunks_writePlace_of_not_mem {chunkList : List ChunkNo} {c : ChunkNo} (h : c ∉ chunkList) (n : Nat) (w : Word)
    (b : BufferStore) : (writePlace chunkList n w b).chunks.get c = b.chunks.get c := by
  unfold writePlace
  split
  · next x hx =>
    have : c ≠ x := fun e => h (e ▸ List.mem_of_getElem? hx)
    rw [chunks_writeChunk, if_neg this]
  · rfl

theorem positionOf_val (n : Nat) : (positionOf n).val = n % 16 := rfl

/-- Of two words, at most one lies at a place: the chunk and the position say which word it is. -/
theorem place_injective {chunkList : List ChunkNo} (hd : chunkList.Nodup) {m n : Nat} {c : ChunkNo}
    (hm : chunkList[m / 16]? = some c) (hn : chunkList[n / 16]? = some c) (hp : positionOf m = positionOf n) : m = n := by
  have h16 : m / 16 = n / 16 := by
    obtain ⟨hm', -⟩ := List.getElem?_eq_some_iff.mp hm
    exact (List.getElem?_inj hm' hd).mp (hm.trans hn.symm)
  have : m % 16 = n % 16 := by simpa [positionOf_val] using congrArg Fin.val hp
  omega

/-- The word just placed is read back (R37). -/
theorem readPlace_writePlace_self {chunkList : List ChunkNo} {n : Nat} (h : n < 16 * chunkList.length) (w : Word)
    (b : BufferStore) : readPlace chunkList n (writePlace chunkList n w b) = w := by
  have hc : n / 16 < chunkList.length := by omega
  simp [readPlace, writePlace, List.getElem?_eq_getElem hc, readChunk_writeChunk]

/-- Every other word keeps its value (R37). -/
theorem readPlace_writePlace_of_ne {chunkList : List ChunkNo} (hd : chunkList.Nodup) {m n : Nat} (h : m ≠ n) (w : Word)
    (b : BufferStore) : readPlace chunkList m (writePlace chunkList n w b) = readPlace chunkList m b := by
  unfold readPlace writePlace
  cases hm : chunkList[m / 16]? with
  | none => rfl
  | some c =>
    cases hn : chunkList[n / 16]? with
    | none => rfl
    | some x =>
      simp only [readChunk_writeChunk]
      rw [if_neg]
      rintro ⟨rfl, hp⟩
      exact h (place_injective hd hm hn hp)

/-! ## The pool -/

/-- A flag of the pool after the chunks of a list were marked. -/
theorem get_markChunks (value : Bool) (cs : List ChunkNo) (v : Vector Bool 64) (c : ChunkNo) :
    (markChunks value cs v).get c = if c ∈ cs then value else v.get c := by
  induction cs generalizing v with
  | nil => simp [markChunks]
  | cons x xs ih =>
    rw [markChunks, ih, get_set]
    by_cases h : c = x <;> simp [h]

@[simp] theorem chunks_takeChunks (cs : List ChunkNo) (b : BufferStore) : (takeChunks cs b).chunks = b.chunks := rfl

@[simp] theorem chunks_putChunks (cs : List ChunkNo) (b : BufferStore) : (putChunks cs b).chunks = b.chunks := rfl

@[simp] theorem putChunks_nil (b : BufferStore) : putChunks [] b = b := rfl

@[simp] theorem takeChunks_nil (b : BufferStore) : takeChunks [] b = b := rfl

@[simp] theorem readPlace_takeChunks (chunkList cs : List ChunkNo) (n : Nat) (b : BufferStore) :
    readPlace chunkList n (takeChunks cs b) = readPlace chunkList n b := rfl

@[simp] theorem readPlace_putChunks (chunkList cs : List ChunkNo) (n : Nat) (b : BufferStore) :
    readPlace chunkList n (putChunks cs b) = readPlace chunkList n b := rfl

/-- A chunk is offered by the pool exactly where its flag is set. -/
theorem mem_freeChunks (c : ChunkNo) (b : BufferStore) : c ∈ freeChunks b ↔ b.free.get c = true := by
  simp [freeChunks]

end Sys2Proof.Machine
end

