-- ==== Sys2Proof/Laws/Effects.lean ====
section
/-! SUPPORT. For each shared operation of the machine one lemma that says everything it can do, so that a proof cites it and
does not unfold the operation. -/

namespace Sys2Proof.Machine

/-! ## Folds -/

/-- What every step of a fold keeps, the fold keeps. -/
theorem foldl_keeps {α β : Type} (p : State → β) (f : State → α → State) (h : ∀ s a, p (f s a) = p s) (l : List α)
    (s : State) : p (l.foldl f s) = p s := by
  induction l generalizing s with
  | nil => rfl
  | cons a l ih => rw [List.foldl_cons, ih, h]

/-- A property that every step of a fold preserves, the fold preserves. -/
theorem foldl_preserves {α : Type} (P : State → Prop) (f : State → α → State) (h : ∀ s a, P s → P (f s a)) (l : List α)
    (s : State) (hs : P s) : P (l.foldl f s) := by
  induction l generalizing s with
  | nil => exact hs
  | cons a l ih => exact ih _ (h s a hs)

/-! ## Events and the flags -/

/-- The appends of one event change the event unit alone (R154). -/
theorem settleResults_eq (before : Nat) (s : State) :
    settleResults before s = { s with events := s.events.afterAppends before s.results.length } := by
  unfold settleResults EventUnit.afterAppends
  split <;> rfl

/-- An event that appends nothing leaves RESULT and the holdoff timer as they are. -/
@[simp] theorem settleResults_self (s : State) : settleResults s.results.length s = s := by simp [settleResults]

theorem afterAppends_of_le {before after : Nat} (h : after ≤ before) (e : EventUnit) :
    e.afterAppends before after = e := by
  simp [EventUnit.afterAppends, Nat.not_lt.mpr h]

/-- Out of reset an event has its effect, and then its appends do what R154 says. -/
theorem takeEvent_of_released {s : State} (h : s.resetAsserted = false) (effect : State → State) :
    takeEvent effect s = .next { effect s with
      events := (effect s).events.afterAppends s.results.length (effect s).results.length } := by
  simp [takeEvent, h, settleResults_eq]

/-- While RESET_N is asserted an event has no effect (R147). -/
theorem takeEvent_of_asserted {s : State} (h : s.resetAsserted = true) (effect : State → State) :
    takeEvent effect s = .next s := by
  simp [takeEvent, h]

/-- Every answer of an event. -/
theorem takeEvent_cases {effect : State → State} {s t : State} (h : takeEvent effect s = .next t) :
    (s.resetAsserted = true ∧ t = s)
      ∨ (s.resetAsserted = false ∧ t = { effect s with
        events := (effect s).events.afterAppends s.results.length (effect s).results.length }) := by
  cases hr : s.resetAsserted with
  | true =>
    rw [takeEvent_of_asserted hr] at h
    exact .inl ⟨rfl, (by cases h; rfl)⟩
  | false =>
    rw [takeEvent_of_released hr] at h
    exact .inr ⟨rfl, (by cases h; rfl)⟩

/-- An event always answers a next state. -/
theorem takeEvent_answers (effect : State → State) (s : State) : ∃ t, takeEvent effect s = .next t := by
  unfold takeEvent
  split <;> exact ⟨_, rfl⟩

/-- Out of reset, an event whose effect appends no record answers just its effect. -/
theorem takeEvent_of_no_append {s : State} (h : s.resetAsserted = false) {effect : State → State}
    (hr : (effect s).results.length ≤ s.results.length) : takeEvent effect s = .next (effect s) := by
  rw [takeEvent_of_released h, afterAppends_of_le hr]

/-- Out of reset a read has its effect as an event has. -/
theorem takeRead_of_released {s : State} (h : s.resetAsserted = false) (effect : State → State) :
    takeRead effect s = takeEvent effect s := by
  simp [takeRead, takeEvent, h]

/-- While RESET_N is asserted a read returns 0 and does nothing else (R147). -/
theorem takeRead_of_asserted {s : State} (h : s.resetAsserted = true) (effect : State → State) :
    takeRead effect s = .next { s with host := { s.host with readData := 0 } } := by
  simp [takeRead, h, updHost]

theorem raiseAccess_eq (s : State) : raiseAccess s = { s with events := { s.events with access := true } } := rfl

theorem raiseLink_eq (s : State) : raiseLink s = { s with events := { s.events with link := true } } := rfl

theorem raiseUnit_eq (s : State) : raiseUnit s = { s with events := { s.events with unit := true } } := rfl

theorem raisePosted_eq (s : State) : raisePosted s = { s with events := { s.events with posted := true } } := rfl

/-- A protocol error (R155). -/
theorem protocolError_eq (s : State) : protocolError s = protoErrorCounted s := rfl

/-! ## The tag table -/

/-- A tag that leaves its lists: no tag's record changes. -/
@[simp] theorem tag_leaveLists (t x : Tag) (s : State) : (leaveLists t s).tag x = s.tag x := rfl

/-- A tag that leaves its lists: its unit's order list loses it, and no other unit's record changes. -/
theorem unit_leaveLists (t : Tag) (s : State) (u : UnitNo) :
    (leaveLists t s).unit u =
      if u = (s.tag t).unit then { s.unit u with orderList := (s.unit u).orderList.filter (fun x => x ≠ t) }
      else s.unit u := by
  change (updUnit (s.tag t).unit (fun r => { r with orderList := r.orderList.filter (fun x => x ≠ t) }) s).unit u = _
  rw [unit_updUnit]
  split
  · next e => rw [e]
  · rfl

/-- Everything that leaving the lists does. -/
theorem leaveLists_eq (t : Tag) (s : State) :
    leaveLists t s = { s with
      units := (leaveLists t s).units
      dispatchQueue := s.dispatchQueue.filter (fun x => x ≠ t)
      owedCancels := s.owedCancels.filter (fun x => x ≠ t) } := rfl

/-- The records after a tag's chunks returned. -/
theorem tag_returnChunks (t x : Tag) (s : State) :
    (returnChunks t s).tag x = if x = t then { s.tag t with chunkList := [] } else s.tag x := tag_updTag t x _ _

/-- Everything that the return of a tag's chunks does (R39). -/
theorem returnChunks_eq (t : Tag) (s : State) :
    returnChunks t s = { s with
      tags := (returnChunks t s).tags, store := putChunks (s.tag t).chunkList s.store } := rfl

/-- The records after a tag became FREE: its own is blank (R2). -/
theorem tag_freeTag (t x : Tag) (s : State) : (freeTag t s).tag x = if x = t then {} else s.tag x := by
  rw [freeTag, tag_updTag]
  split
  · rfl
  · next h => rw [tag_leaveLists, tag_returnChunks, if_neg h]

/-- The units after a tag became FREE. -/
theorem unit_freeTag (t : Tag) (s : State) (u : UnitNo) : (freeTag t s).unit u = (leaveLists t s).unit u := by
  change (leaveLists t (returnChunks t s)).unit u = _
  rw [unit_leaveLists, unit_leaveLists, tag_returnChunks, if_pos rfl]
  rfl

/-- Everything that becoming FREE does. -/
theorem freeTag_eq (t : Tag) (s : State) :
    freeTag t s = { s with
      tags := (freeTag t s).tags, units := (freeTag t s).units
      store := putChunks (s.tag t).chunkList s.store
      dispatchQueue := s.dispatchQueue.filter (fun x => x ≠ t)
      owedCancels := s.owedCancels.filter (fun x => x ≠ t) } := rfl

/-- The records after a tag became ORPHANED. -/
theorem tag_orphanTag (t x : Tag) (s : State) :
    (orphanTag t s).tag x =
      if x = t then
        { s.tag t with
          state := .orphaned, chunkList := [], timer := .idle, cancelPending := false, farReplyPending := false }
      else s.tag x := by
  rw [orphanTag, tag_updTag]
  split
  · rw [tag_leaveLists, tag_returnChunks, if_pos rfl]
  · next h => rw [tag_leaveLists, tag_returnChunks, if_neg h]

/-- The units after a tag became ORPHANED. -/
theorem unit_orphanTag (t : Tag) (s : State) (u : UnitNo) : (orphanTag t s).unit u = (leaveLists t s).unit u := by
  change (leaveLists t (returnChunks t s)).unit u = _
  rw [unit_leaveLists, unit_leaveLists, tag_returnChunks, if_pos rfl]
  rfl

/-- Everything that becoming ORPHANED does. -/
theorem orphanTag_eq (t : Tag) (s : State) :
    orphanTag t s = { s with
      tags := (orphanTag t s).tags, units := (orphanTag t s).units
      store := putChunks (s.tag t).chunkList s.store
      dispatchQueue := s.dispatchQueue.filter (fun x => x ≠ t)
      owedCancels := s.owedCancels.filter (fun x => x ≠ t) } := rfl

/-- The records after a tag completed (R7). -/
theorem tag_completeTag (t x : Tag) (e : Ending) (s : State) :
    (completeTag t e s).tag x = if x = t then completedRecord e (s.tag t) else s.tag x := tag_updTag t x _ s

/-- The units after a tag completed. -/
theorem unit_completeTag (t : Tag) (e : Ending) (s : State) (u : UnitNo) :
    (completeTag t e s).unit u = (leaveLists t s).unit u := by
  change (leaveLists t (updTag t (completedRecord e) s)).unit u = _
  rw [unit_leaveLists, unit_leaveLists, tag_updTag_self]
  rfl

/-- Everything that completing does, the MARKs apart (R7, R11). -/
theorem completeTag_eq (t : Tag) (e : Ending) (s : State) :
    completeTag t e s = { s with
      tags := (completeTag t e s).tags, units := (completeTag t e s).units
      results := s.results ++ [completionOf t (completedRecord e (s.tag t))]
      dispatchQueue := s.dispatchQueue.filter (fun x => x ≠ t)
      owedCancels := s.owedCancels.filter (fun x => x ≠ t) } := rfl

/-- The release of MARKs touches the tag table, the result queue and the lists alone (R54). -/
theorem releaseMarks_eq (u : UnitNo) (s : State) :
    releaseMarks u s = { s with
      tags := (releaseMarks u s).tags, units := (releaseMarks u s).units, results := (releaseMarks u s).results
      dispatchQueue := (releaseMarks u s).dispatchQueue, owedCancels := (releaseMarks u s).owedCancels } := by
  unfold releaseMarks
  generalize (s.unit u).orderList.takeWhile _ = l
  induction l generalizing s with
  | nil => rfl
  | cons a l ih =>
    rw [List.foldl_cons]
    conv => lhs; rw [ih]
    rfl

/-- With no WAITING MARK at the front of the order list none is released. -/
theorem releaseMarks_of_none {u : UnitNo} {s : State}
    (h : ∀ t, (s.unit u).orderList.head? = some t → (s.tag t).state ≠ .waiting) : releaseMarks u s = s := by
  unfold releaseMarks
  cases hl : (s.unit u).orderList with
  | nil => rfl
  | cons t l =>
    have := h t (by simp [hl])
    simp [this]

/-- Everything that a posted failure report does (R83). -/
theorem reportPosted_eq (t : Tag) (reason : PostedReason) (s : State) : reportPosted t reason s = reported t reason s := by
  unfold reportPosted reported PostedLatch.report raisePosted updEvents riseTo
  cases h : s.latch.record <;> simp [← h]

/-- The records after the settlement of one tag (R17, R18). -/
theorem tag_settleTag (outcome : TxOutcome) (reason : PostedReason) (t x : Tag) (s : State) :
    (settleTag outcome reason t s).tag x = if x = t then settledRecord outcome (s.tag t) else s.tag x := by
  have hr (r : PostedReason) : (reportPosted t r s).tag = s.tag := by
    rw [reportPosted_eq]
    rfl
  cases h : (s.tag t).state <;> simp only [settleTag, settledRecord, h, TagState.unsent]
  case free =>
    split
    · next e => rw [e]
    · rfl
  case complete => rw [tag_updTag, h]
  case orphaned => exact tag_freeTag t x s
  all_goals
    split
    · rw [tag_freeTag, hr]
    · rw [tag_completeTag]
      rfl

/-- The settlement of one tag touches no other block than those of R17 and R18. -/
theorem settleTag_frame (outcome : TxOutcome) (reason : PostedReason) (t : Tag) (s : State) :
    settleTag outcome reason t s = { s with
      tags := (settleTag outcome reason t s).tags, units := (settleTag outcome reason t s).units
      results := (settleTag outcome reason t s).results, store := (settleTag outcome reason t s).store
      latch := (settleTag outcome reason t s).latch, events := (settleTag outcome reason t s).events
      dispatchQueue := (settleTag outcome reason t s).dispatchQueue
      owedCancels := (settleTag outcome reason t s).owedCancels } := by
  cases h : (s.tag t).state <;> simp only [settleTag, h]
  case complete => rfl
  case orphaned => rfl
  all_goals
    split
    · rw [reportPosted_eq, freeTag_eq]
      rfl
    · rw [completeTag_eq]

/-- The entry to CANCELLING (R6, R60). -/
theorem tag_enterCancelling (cause : CancelCause) (t x : Tag) (s : State) :
    (enterCancelling cause t s).tag x =
      if x = t then
        { s.tag t with
          state := .cancelling, cancelCause := cause, cancelPending := true, timer := .idle
          cancelRequested := (s.tag t).cancelRequested || decide (cause = .host) }
      else s.tag x := by
  have h : (enterCancelling cause t s).tag = (updTag t (fun r =>
      { r with
        state := .cancelling, cancelCause := cause, cancelPending := true, timer := .idle
        cancelRequested := r.cancelRequested || decide (cause = .host) }) s).tag := rfl
  rw [h, tag_updTag]

/-- Everything that the entry to CANCELLING does. -/
theorem enterCancelling_eq (cause : CancelCause) (t : Tag) (s : State) :
    enterCancelling cause t s = { s with
      tags := (enterCancelling cause t s).tags, owedCancels := s.owedCancels ++ [t] } := rfl

/-- The end of a selection changes the host port alone (R13, R45). -/
theorem dropSelection_eq (t : Tag) (s : State) :
    dropSelection t s = { s with
      host :=
        if s.host.selected = some t then { s.host with selected := none, readPointer := 0, readLimit := 0 } else s.host } := by
  unfold dropSelection
  split <;> rfl

/-! ## Replies -/

/-- One credit returns (R67). -/
theorem returnCredit_eq (u : UnitNo) (s : State) : returnCredit u s = creditReturned u s := rfl

/-- The placing of data for a block kind changes the tag's words received and the store alone (R41). -/
theorem placeData_of_block {t : Tag} {s : State} (h : (s.tag t).kind.isBlock = true) (offset count : Nat)
    (words : List Word) :
    placeData t offset count words s
      = updTag t (fun r => { r with wordsReceived := r.wordsReceived + count })
        { s with store := writePlaces (s.tag t).chunkList offset words s.store } := by
  simp [placeData, h]
  rfl

/-- The placing of data for another kind changes the tag's words received and slot alone (R41). -/
theorem placeData_of_slot {t : Tag} {s : State} (h : (s.tag t).kind.isBlock = false) (offset count : Nat)
    (words : List Word) :
    placeData t offset count words s
      = updTag t (fun r => { r with wordsReceived := r.wordsReceived + count, slot := words.headD r.slot }) s := by
  simp [placeData, h]

/-- A reply matches exactly where R65 says. -/
theorem matched_iff (t : Tag) (u : UnitNo) (s : State) : matched t u s = true ↔ Matched t u s := by
  unfold matched Matched TagRecord.awaitsReply
  cases h : (s.tag t).state <;> simp [and_assoc]

/-! ## The link -/

/-- A change of link state (R56, R112). -/
theorem changeState_eq (target : LinkState) (s : State) :
    changeState target s = { s with
      link := { s.link with
        state := target
        transmitter := if target = .down ∨ target = .faulted then none else s.link.transmitter }
      events := { s.events with link := true } } := rfl

/-- The entry to TRAINING (R113, R114). -/
theorem enterTraining_eq (s : State) :
    enterTraining s = { s with
      link := { s.link with
        state := .training, epoch := s.link.epoch + 1, send := {}, recv := {}, attempts := 0, trainDue := true
        afterLoss := false, restartTimer := none }
      events := { s.events with link := true } } := rfl

/-- The entry to DISCOVERY (R116). -/
theorem enterDiscovery_eq (s : State) :
    enterDiscovery s = { s with
      link := { s.link with
        state := .discovery, trainingInterval := none, trainDue := false, discoveryTimer := some 5000 }
      events := { s.events with link := true } } := rfl

/-- The settlement of every tag touches no other block than those of R17. -/
theorem settleAllTags_frame (s : State) :
    settleAllTags s = { s with
      tags := (settleAllTags s).tags, units := (settleAllTags s).units, results := (settleAllTags s).results
      store := (settleAllTags s).store, latch := (settleAllTags s).latch, events := (settleAllTags s).events
      dispatchQueue := (settleAllTags s).dispatchQueue, owedCancels := (settleAllTags s).owedCancels } := by
  unfold settleAllTags
  generalize allTags = l
  induction l generalizing s with
  | nil => rfl
  | cons a l ih =>
    rw [List.foldl_cons]
    refine (ih _).trans ?_
    congr 1 <;> rw [settleTag_frame]

/-- A tag's record after a settlement of the tags of a list, each standing in it once. -/
theorem tag_foldl_settleTag (outcome : TxOutcome) (reason : PostedReason) {l : List Tag} (hl : l.Nodup) (x : Tag)
    (s : State) :
    (l.foldl (fun s t => settleTag outcome reason t s) s).tag x
      = if x ∈ l then settledRecord outcome (s.tag x) else s.tag x := by
  induction l generalizing s with
  | nil => simp
  | cons a l ih =>
    rw [List.foldl_cons, ih (List.nodup_cons.mp hl).2, tag_settleTag]
    by_cases h : x = a
    · have : a ∉ l := (List.nodup_cons.mp hl).1
      simp [h, this]
    · simp [h]

/-- Every tag's record after link loss (R17). -/
theorem tag_settleAllTags (x : Tag) (s : State) :
    (settleAllTags s).tag x = settledRecord .linkLost (s.tag x) := by
  rw [settleAllTags, tag_foldl_settleTag _ _ nodup_allTags, if_pos (mem_allTags x)]

/-- Outside DISCOVERY and UP there is no established link to lose (R129). -/
theorem loseEstablished_of_not {s : State} (h : ¬ InSession s) (reason : LossReason) : loseEstablished reason s = s := by
  unfold loseEstablished
  unfold InSession at h
  split <;> simp_all

/-- In DISCOVERY and UP the link is lost (R129). -/
theorem loseEstablished_of_session {s : State} (h : InSession s) (reason : LossReason) :
    loseEstablished reason s = linkLoss reason s := by
  unfold loseEstablished
  obtain h | h := h <;> simp [h]

/-- The oldest unacknowledged number, said without cases. -/
theorem oldest_eq (d : SendSide) : d.oldest = oldestUnacknowledged d := by
  unfold SendSide.oldest oldestUnacknowledged
  cases d.replayList <;> rfl

/-- The window of acknowledge numbers (R123). -/
theorem inWindow_iff (d : SendSide) (n : SeqNo) : d.inWindow n = true ↔ InWindow d n := by
  simp [SendSide.inWindow, InWindow, oldest_eq]

/-- A demand below the episode limit starts a pass from the head (R126). -/
theorem demandPass_of_lt {s : State} (h : s.link.send.episode < 4) :
    demandPass s = { s with
      link := { s.link with
        send := { s.link.send with
          pass := some 0, episode := s.link.send.episode + 1, replayTimer := some (s.link.replayTimeout * 8) }
        replayCount := if s.link.replayCount < 65535 then s.link.replayCount + 1 else s.link.replayCount } } := by
  simp only [demandPass, Config.episodeLimit, h, if_true]
  rfl

/-- A demand at the episode limit is link loss (R126). -/
theorem demandPass_of_le {s : State} (h : 4 ≤ s.link.send.episode) : demandPass s = loseEstablished .replayLimit s := by
  simp [demandPass, Config.episodeLimit, Nat.not_lt.mpr h]

/-- A new message frame (R122, R125). -/
theorem sendMessage_eq (body : List Word) (s : State) :
    sendMessage body s = { s with
      link := { s.link with
        transmitter := some (messageFrame s.link.epoch s.link.send.next body)
        send := { s.link.send with
          next := s.link.send.next + 1
          replayList := s.link.send.replayList
            ++ [⟨s.link.send.next, messageFrame s.link.epoch s.link.send.next body⟩]
          replayTimer :=
            if s.link.send.replayList = [] then some (s.link.replayTimeout * 8) else s.link.send.replayTimer } } } := rfl

/-! ## The transmitter -/

/-- An item is the arbiter's choice exactly where the transmitter is idle, the item applies and none above it does (R56,
R57). -/
theorem arbiterChoice_eq (s : State) :
    arbiterChoice s =
      if s.link.transmitter.isNone then
        if applies s .nak then some .nak
        else if applies s .ack then some .ack
        else if applies s .train then some .train
        else if applies s .replay then some .replay
        else if applies s .attentionAck then some .attentionAck
        else if applies s .cancel then some .cancel
        else if applies s .request then some .request
        else none
      else none := by
  simp only [arbiterChoice, arbiterOrder, List.find?_cons, List.find?_nil]
  repeat' split
  all_goals simp_all

/-- A take that is not the arbiter's changes nothing. -/
theorem takeItem_of_ne {s : State} {item : TxItem} (h : arbiterChoice s ≠ some item) (effect : State → State) :
    takeItem item effect s = s := by
  simp [takeItem, h]

/-- The arbiter's take has its effect. -/
theorem takeItem_of_eq {s : State} {item : TxItem} (h : arbiterChoice s = some item) (effect : State → State) :
    takeItem item effect s = effect s := by
  simp [takeItem, h]

/-! ## The receiver -/

/-- The delivery of one frame (R118, R120). -/
theorem updRecv_delivered (s : State) : updRecv ReceiveSide.delivered s = delivered s := by
  have : ReceiveSide.delivered s.link.recv = frameDelivered s.link.recv := by
    unfold ReceiveSide.delivered frameDelivered riseTo
    simp only [Config.ackCountLimit, Config.ackCountOwed, Config.ackDelay, ReceiveSide.mk.injEq, true_and, and_true]
    by_cases h : s.link.recv.ackCount < 31
    · simp [h, Nat.succ_inj]
    · have : s.link.recv.ackCount ≠ 3 ∧ s.link.recv.ackCount ≠ 4 := by omega
      simp [h, this.1, this.2]
  simp [updRecv, updLink, delivered, this]

/-- A counted receive error (R132). -/
theorem countRxError_eq (s : State) : countRxError s = rxErrorCounted s := rfl

/-- A NAK asked for (R121). -/
theorem oweNak_eq (v : ReceiveSide) : v.oweNak = nakAsked v := rfl

/-- A frame that passes the CRC and form checks, by the link state and its epoch (R117, Table 8.3). -/
theorem receiveInEpoch_cases (epoch : Epoch) (inTraining inSession : State → State) (s : State) :
    ((s.link.state = .down ∨ s.link.state = .faulted) ∧ receiveInEpoch epoch inTraining inSession s = s)
      ∨ ((s.link.state = .training ∨ InSession s) ∧ epoch ≠ s.link.epoch
        ∧ receiveInEpoch epoch inTraining inSession s = rxErrorCounted s)
      ∨ (s.link.state = .training ∧ epoch = s.link.epoch
        ∧ receiveInEpoch epoch inTraining inSession s = inTraining s)
      ∨ (InSession s ∧ epoch = s.link.epoch ∧ receiveInEpoch epoch inTraining inSession s = inSession s) := by
  unfold receiveInEpoch InSession
  by_cases he : epoch = s.link.epoch <;> cases h : s.link.state <;> simp [he, countRxError_eq]

/-- A MESSAGE frame in DOWN or FAULTED is discarded; a reply of the old link is a protocol error (R85, R117; log entry
16). -/
theorem receiveMessage_of_down {s : State} (hs : s.link.state = .down ∨ s.link.state = .faulted) (h : MsgHeader)
    (m : Inbound) :
    receiveMessage h m s =
      if m.isReply = true ∧ s.link.afterLoss = true ∧ h.epoch = s.link.epoch then protoErrorCounted s else s := by
  have : receiveMessage h m s = discardMessage h m s := by
    unfold receiveMessage
    obtain hs | hs := hs <;> simp [hs]
  rw [this]
  rfl

/-- A frame in order is delivered and its message handed to its owner (R118, R119). -/
theorem receiveMessage_of_inOrder {h : MsgHeader} {s : State} (hi : InOrder h s) (m : Inbound) :
    receiveMessage h m s = deliver m (delivered s) := by
  obtain ⟨-, hs, he, hq⟩ := hi
  have : receiveMessage h m s = sequenceMessage h.seq m s := by
    unfold receiveMessage receiveInEpoch
    obtain hs | hs := hs <;> simp [hs, he]
  rw [this, sequenceMessage, hq, updRecv_delivered]
  simp

/-! ## The attention queue -/

/-- The attention queue after a record was merged or appended: no unit gains a second record (R101, R103). -/
theorem units_putInQueue (u : UnitNo) (merge : Attn → Attn) (fresh : Attn) (q : List AttnRecord) :
    (putInQueue u merge fresh q).map AttnRecord.unit
      = q.map AttnRecord.unit ++ (if queued u q then [] else [u]) := by
  unfold putInQueue
  split
  · rw [List.append_nil, List.map_map]
    apply List.map_congr_left
    intro r _
    simp only [Function.comp_apply]
    split <;> rfl
  · simp

/-- A unit is in the queue exactly where some record is its own. -/
theorem queued_iff (u : UnitNo) (q : List AttnRecord) : queued u q = true ↔ ∃ r ∈ q, r.unit = u := by
  simp [queued]

/-! ## Commands on a tag -/

/-- An operand below 32 names its tag (R144). -/
theorem onTag_of_eq {operand : Byte} {t : Tag} (h : operand.toNat = t.val) (command : Tag → State → State) (s : State) :
    onTag operand command s = command t s := by
  have hlt : operand.toNat < 32 := h ▸ t.isLt
  have : tagOperand operand = some t := by
    rw [tagOperand, dif_pos hlt]
    exact congrArg some (Fin.ext h)
  rw [onTag, this]

/-- An operand of 32 or more names none, and the command is refused (R144). -/
theorem onTag_of_le {operand : Byte} (h : 32 ≤ operand.toNat) (command : Tag → State → State) (s : State) :
    onTag operand command s = withResult .badTag s := by
  have : tagOperand operand = none := by rw [tagOperand, dif_neg (Nat.not_lt.mpr h)]
  rw [onTag, this]
  rfl

/-- An accepted pop changes RESULT and the holdoff timer where it empties the queue, and nothing else (R154). -/
theorem settlePop_eq (s : State) :
    settlePop s = { s with
      events := if s.results = [] then { s.events with result := false, holdoffTimer := none } else s.events } := by
  unfold settlePop
  by_cases h : s.results = []
  · rw [if_pos (List.isEmpty_iff.mpr h), if_pos h]
    rfl
  · rw [if_neg (fun h2 => h (List.isEmpty_iff.mp h2)), if_neg h]

/-! ## Link loss -/

/-- Every unit's record after link loss: ABSENT, its host-owned fields kept, its held attention with ack due no (R96,
R110). -/
theorem unit_loseUnits (s : State) (u : UnitNo) :
    (loseUnits s).unit u =
      { replyTimeout := (s.unit u).replyTimeout, masked := (s.unit u).masked
        held := (s.unit u).held.map (fun a => { a with ackDue := false }) } := by
  have h : (loseUnits s).unit u = lostUnit ((if anyPresent s then raiseUnit s else s).unit u) := unit_updUnits lostUnit _ u
  rw [h]
  have h2 : (if anyPresent s then raiseUnit s else s).unit u = s.unit u := by split <;> rfl
  rw [h2]
  rfl

/-- The link controller after link loss (R129). -/
theorem link_linkLoss (reason : LossReason) (s : State) :
    (linkLoss reason s).link = { s.link with
      state := lossTarget reason, lastLoss := reason, afterLoss := true, send := {}, recv := {}
      discoveryTimer := none, transmitter := none
      restartTimer := restartOnEntry (lossTarget reason) s.link.autoRestart } := by
  have h : (loseUnits (loseTags s)).link = s.link := by
    have h1 : (loseUnits (loseTags s)).link = (loseTags s).link := by
      unfold loseUnits
      generalize loseTags s = w
      rw [updUnits_link]
      by_cases hp : anyPresent w = true
      · rw [if_pos hp]
        rfl
      · rw [if_neg hp]
    have h2 : (loseTags s).link = (settleAllTags s).link := by
      unfold loseTags
      generalize settleAllTags s = w
      rfl
    have h3 : (settleAllTags s).link = s.link := by
      have hf := settleAllTags_frame s
      generalize settleAllTags s = w at hf
      rw [hf]
    exact h1.trans (h2.trans h3)
  have ht : lossTarget reason = .down ∨ lossTarget reason = .faulted := by
    unfold lossTarget
    split <;> simp
  unfold linkLoss
  rw [changeState_eq]
  simp only [updLink_link, h, if_pos ht]

/-- A tag's record after the settlement of one unit's tags, for a list of tags with none twice (R18). -/
theorem tag_foldl_settleUnit (u : UnitNo) {l : List Tag} (hl : l.Nodup) (x : Tag) (s : State) :
    (l.foldl (fun s t => if (s.tag t).unit = u then settleTag .unitGone .unitGone t s else s) s).tag x
      = if x ∈ l ∧ (s.tag x).unit = u then settledRecord .unitGone (s.tag x) else s.tag x := by
  induction l generalizing s with
  | nil => simp
  | cons a l ih =>
    have ha : a ∉ l := (List.nodup_cons.mp hl).1
    rw [List.foldl_cons, ih (List.nodup_cons.mp hl).2]
    have hx (s' : State) (h : s'.tag x = s.tag x) (hxa : x ≠ a) :
        (if x ∈ l ∧ (s'.tag x).unit = u then settledRecord .unitGone (s'.tag x) else s'.tag x)
          = if x ∈ a :: l ∧ (s.tag x).unit = u then settledRecord .unitGone (s.tag x) else s.tag x := by
      simp [h, hxa]
    by_cases hxa : x = a
    · subst hxa
      simp only [ha, false_and, if_false, List.mem_cons_self, true_and]
      by_cases hu : (s.tag x).unit = u
      · rw [if_pos hu, if_pos hu, tag_settleTag, if_pos rfl]
      · rw [if_neg hu, if_neg hu]
    · apply hx _ _ hxa
      split
      · rw [tag_settleTag, if_neg hxa]
      · rfl

/-- Every tag's record after UNIT-GONE (R18). -/
theorem tag_settleUnitTags (u : UnitNo) (x : Tag) (s : State) :
    (settleUnitTags u s).tag x = if (s.tag x).unit = u then settledRecord .unitGone (s.tag x) else s.tag x := by
  rw [settleUnitTags, tag_foldl_settleUnit u nodup_allTags]
  simp

/-- An acknowledgement that removes no frame changes nothing (R123). -/
theorem acknowledge_of_none {d : SendSide} {n : SeqNo} (h : (n - d.oldest).toNat = 0) (setting : Nat) :
    d.acknowledge setting n = d := by
  simp [SendSide.acknowledge, h]

/-- An acknowledgement that removes frames (R123). -/
theorem acknowledge_of_some {d : SendSide} {n : SeqNo} (h : (n - d.oldest).toNat ≠ 0) (setting : Nat) :
    d.acknowledge setting n = { d with
      replayList := d.replayList.drop (n - d.oldest).toNat
      episode := 0
      replayTimer := if d.replayList.drop (n - d.oldest).toNat = [] then none else some setting
      pass := if d.replayList.drop (n - d.oldest).toNat = [] then none
        else d.pass.map (fun i => i - (n - d.oldest).toNat) } := by
  simp only [SendSide.acknowledge, h, if_false]

/-! ## The words of a block -/

/-- The words are written one after another. -/
@[simp] theorem writePlaces_cons (chunkList : List ChunkNo) (n : Nat) (w : Word) (ws : List Word) (b : BufferStore) :
    writePlaces chunkList n (w :: ws) b = writePlaces chunkList (n + 1) ws (writePlace chunkList n w b) := rfl

@[simp] theorem writePlaces_nil (chunkList : List ChunkNo) (n : Nat) (b : BufferStore) :
    writePlaces chunkList n [] b = b := rfl

end Sys2Proof.Machine
end

