-- ==== Sys2Proof/Laws/Registers.lean ====
section
/-! SUPPORT. What a register shows: fields side by side are a sum, every code fits its field, and what a host read does. -/

namespace Sys2Proof.Machine

/-! ## Fields -/

/-- A field from bit `low` up is its number times 2 ^ low. -/
theorem field_eq (low n : Nat) : field low n = BitVec.ofNat 16 (2 ^ low * n) := by
  apply BitVec.eq_of_toNat_eq
  simp [field, BitVec.toNat_shiftLeft, Nat.shiftLeft_eq, Nat.mul_comm]

/-- A flag at a bit is 2 ^ bit where it is set. -/
theorem flag_eq (bit : Nat) (b : Bool) : flag bit b = BitVec.ofNat 16 (2 ^ bit * b.toNat) := field_eq bit b.toNat

/-- A field beside one that ends below it: the two are a sum. -/
theorem ofNat_or_ofNat {low b : Nat} (h : b < 2 ^ low) (a : Nat) :
    (BitVec.ofNat 16 (2 ^ low * a) ||| BitVec.ofNat 16 b : Halfword) = BitVec.ofNat 16 (2 ^ low * a + b) := by
  rw [Nat.two_pow_add_eq_or_of_lt h]
  exact (BitVec.ofNat_or).symm

/-- The high half of a word as a number. -/
theorem highHalf_eq (w : Word) : highHalf w = BitVec.ofNat 16 (w.toNat / 2 ^ 16) := by
  apply BitVec.eq_of_toNat_eq
  simp [highHalf, BitVec.extractLsb'_toNat, Nat.shiftRight_eq_div_pow]

/-- The low half of a word as a number. -/
theorem lowHalf_eq (w : Word) : lowHalf w = BitVec.ofNat 16 (w.toNat % 2 ^ 16) := by
  apply BitVec.eq_of_toNat_eq
  simp [lowHalf, BitVec.extractLsb'_toNat]

/-! ## Codes (Tables 9.8 and 9.9) -/

theorem Kind.code_lt (k : Kind) : k.code < 8 := by cases k <;> decide

theorem Space.code_lt (p : Space) : p.code < 4 := by cases p <;> decide

theorem TxOutcome.code_lt (o : TxOutcome) : o.code < 16 := by cases o <;> decide

theorem Executed.code_lt (e : Executed) : e.code < 4 := by cases e <;> decide

theorem RefusalReason.code_lt (r : RefusalReason) : r.code < 8 := by cases r <;> decide

theorem PostedReason.code_lt (r : PostedReason) : r.code < 32 := by cases r <;> decide

theorem LinkState.code_lt (l : LinkState) : l.code < 8 := by cases l <;> decide

theorem LossReason.code_lt (r : LossReason) : r.code < 16 := by cases r <;> decide

/-! ## Host reads -/

/-- The read of a register without a row puts its value on the bus and changes nothing else (R141). -/
theorem readEvent_of_no_row {r : Reg} (h : r.readRow = none) (s : State) :
    readEvent r s = { s with host := { s.host with readData := readRegister r s } } := by
  cases r <;> first | rfl | cases h

/-- The read of a register puts its value on the bus, whichever register it is. -/
theorem readEvent_readData (r : Reg) (s : State) : (readEvent r s).host.readData = readRegister r s := by
  cases r
  case rdDataH =>
    simp only [readEvent, readRdDataH, readRegister]
    cases portWord s <;> rfl
  case rdDataL =>
    simp only [readEvent, readRdDataL, readRegister]
    cases portWord s <;> rfl
  all_goals rfl

/-- No read appends to the result queue. -/
theorem readEvent_results (r : Reg) (s : State) : (readEvent r s).results = s.results := by
  cases r
  case rdDataH =>
    simp only [readEvent, readRdDataH]
    cases portWord s <;> rfl
  case rdDataL =>
    simp only [readEvent, readRdDataL]
    cases portWord s <;> rfl
  all_goals rfl

end Sys2Proof.Machine
end

