-- ==== Sys2Proof/Tests/Slice0.lean ====
section
/-! SUPPORT. Tests of the model on small states, their expected results from the spec's own examples, tables and rules; the
smoke tests of WellFormed; and a witness for the hypotheses of every obligation that has some. -/

namespace Sys2Proof.Tests

set_option Elab.async false

open Sys2Proof.Machine

/-! ## Small states -/

/-- The state that a command leaves. -/
def after (c : Instr) (s : State) : State :=
  match exec c s with
  | .next t => t
  | .fault _ | .refused _ => s

/-- The link UP in epoch 1; units 2 and 3 PRESENT, with the values of the examples of Sections 2.8 and 1.12. -/
def up : State :=
  updUnit 2 (fun v => { v with present := true, creditLimit := 2, maxBlock := 16, spaces := 0b0110#4 })
    (updUnit 3 (fun v => { v with present := true, creditLimit := 2, maxBlock := 64, spaces := 0b1111#4 })
      { State.reset with link := { state := .up, epoch := 1 } })

/-- A tag with this record, standing in the lists that its state says, its chunks taken. -/
def holding (t : Tag) (r : TagRecord) (s : State) : State :=
  let s1 := updTag t (fun _ => r) s
  let s2 := updUnit r.unit (fun v => { v with
    outstanding := v.outstanding + r.owed.toNat
    orderList := if r.state.inOrderList then v.orderList ++ [t] else v.orderList }) s1
  { s2 with
    dispatchQueue := if r.state = .queued then s.dispatchQueue ++ [t] else s.dispatchQueue
    owedCancels := if r.cancelPending then s.owedCancels ++ [t] else s.owedCancels
    results := if r.state = .complete ∧ r.popped = false then s.results ++ [completionOf t r] else s.results
    store := takeChunks r.chunkList s.store }

/-- The link in another state, in epoch 1, no unit PRESENT. -/
def linkIn (l : LinkState) : State := { State.reset with link := { state := l, epoch := 1 } }

/-- The header of the next message frame in order. -/
def inOrder : MsgHeader := ⟨1, 0⟩

/-- A non-posted READ to unit 3 (Section 1.12). -/
def aRead : TagRecord := { state := .sent, kind := .read, unit := 3, space := .register, address := 0x40, timer := .reply 1250 }

/-- A READ BLOCK of 24 words from unit 3 in chunks 0 and 1, its first segment placed (Section 5.12). -/
def aBlock : TagRecord :=
  { state := .receiving, kind := .readBlock, unit := 3, space := .memory, length := 24, chunkList := [0, 1]
    wordsReceived := 16, timer := .reply 125 }

/-- The WRITE of Section 9.6, to unit 2. -/
def aWrite : TagRecord :=
  { state := .sent, kind := .write, unit := 2, space := .register, address := 0x100, laneMask := 0b1100#4, slot := 0x1234
    timer := .reply 1250 }

/-- A posted WRITE to unit 2 (Section 5.12). -/
def aPosted : TagRecord := { aWrite with state := .posted, posted := true }

/-- A replay list of these frames, numbers 3 to 7, the next number 8 (Section 8.9). -/
def fiveFrames : SendSide :=
  { next := 8, replayList := [⟨3, [3]⟩, ⟨4, [4]⟩, ⟨5, [5]⟩, ⟨6, [6]⟩, ⟨7, [7]⟩], replayTimer := some 200 }

/-- The send side replaced. -/
def sending (d : SendSide) (s : State) : State := updSend (fun _ => d) s

/-! ## WellFormed -/

theorem test_wellFormed_badCode_refuses_defined_code : (Instr.badCode 0x04 0).wellFormed = false := by decide

theorem test_wellFormed_badCode_admits_undefined_code : (Instr.badCode 0x0B 0).wellFormed = true := by decide

theorem test_wellFormed_registerWrite_refuses_own_row : (Instr.registerWrite .events 0).wellFormed = false := by decide

theorem test_wellFormed_outOfSequence_refuses_long_body :
    (Instr.messageOutOfSequence inOrder (List.replicate 21 0)).wellFormed = false := by decide

theorem test_wellFormed_replyData_refuses_long_body :
    (Instr.replyData inOrder 0 0 true false 0 19 (List.replicate 19 0)).wellFormed = false := by decide

theorem test_wellFormed_undefinedMessage_refuses_defined_body :
    (Instr.undefinedMessage inOrder [0x21010200]).wellFormed = false := by decide

theorem test_wellFormed_undefinedMessage_refuses_long_body :
    (Instr.undefinedMessage inOrder (List.replicate 21 0)).wellFormed = false := by decide

/-! ## Layouts (Chapter 9) -/

/-- Section 9.2: the CRC of the nine bytes 0x31 to 0x39. -/
theorem test_crc_check_value : crc16 [0x31, 0x32, 0x33, 0x34, 0x35, 0x36, 0x37, 0x38, 0x39] = 0x29B1 := by decide +kernel

/-- Section 9.6: the REPLY-DONE of word 0x21, 0x01, 0x02, 0x00. -/
theorem test_parse_replyDone : parseMessage [0x21010200] = .replyDone 1 2 := by decide +kernel

theorem test_parse_ignores_reserved_bits : parseMessage [0x21E1F2FF] = .replyDone 1 2 := by decide +kernel

/-- Section 10.6: CMD 0x0428. -/
theorem test_decode_command_release : decodeCommand 0x0428 = .release 40 := by decide

theorem test_register_at_offset_0x4A : Reg.ofIndex 0x25 = some .levelsA := by decide

theorem test_unused_offset_0x50 : decodeHostWrite 0x28 7 = .unusedOffsetAccess 1 (.write 7) := by decide

/-- R137: a start-of-frame symbol breaks the frame in progress off. -/
theorem test_frame_broken_off_by_start :
    boundFrames none [.startOfFrame, .byte 8, .startOfFrame, .byte 3, .endOfFrame]
      = [⟨[8], true⟩, ⟨[3], false⟩] := by decide

theorem test_bad_crc_is_frame_check_failure :
    decodeFrame ⟨[0x03, 0, 1, 0, 0, 0], false⟩ = .frameCheckFailure ⟨[0x03, 0, 1, 0, 0, 0], false⟩ := by decide +kernel

/-! ## Host commands -/

/-- The staged WRITE BLOCK of Section 2.7, with unit 3 for unit 5; a tag holds chunks 0 to 2. -/
def stagedBlock : State :=
  { holding 0 { aBlock with length := 40, chunkList := [0, 1, 2] } up with
    staging :=
      { kindCode := 4, space := .memory, unit := 3, address := 0x00010000, length := 20
        payload := (List.range 20).map (fun n => 0x00A10000 + BitVec.ofNat 32 n) } }

theorem test_submit_takes_lowest_chunks :
    let t := after (.submit 0) stagedBlock
    t.lastTag = 1 ∧ (t.tag 1).state = .queued ∧ (t.tag 1).chunkList = [3, 4] ∧ readRegister .levelsA t = 0x1E3B
      ∧ readChunk 4 3 t.store = 0x00A10013 := by
  decide +kernel

/-- Section 2.8: the refusals of the example's five attempts. -/
theorem test_submit_order_of_refusals :
    let g : Staging := { kindCode := 2, space := .config, unit := 2, address := 0x102 }
    let attempt (g : Staging) := (after (.submit 0) { up with staging := g }).host.cmdResult
    attempt g = .space ∧ attempt { g with space := .register } = .align
      ∧ attempt { g with space := .register, address := 0x100 } = .lanes
      ∧ attempt { g with space := .register, address := 0x100, laneMask := 0b1100 } = .payload
      ∧ attempt { g with space := .register, address := 0x100, laneMask := 0b1100, payload := [1] } = .done
      ∧ attempt { g with kindCode := 7 } = .badKind := by
  decide +kernel

/-- Section 1.12: CANCEL of a SENT tag. -/
theorem test_cancel_of_sent :
    let t := after (.cancel 0) (holding 0 aRead up)
    (t.tag 0).state = .cancelling ∧ (t.tag 0).cancelCause = .host ∧ (t.tag 0).cancelRequested = true
      ∧ (t.tag 0).timer = .idle ∧ t.owedCancels = [0] := by
  decide +kernel

/-- Section 9.6: the result view after the WRITE was refused ACCESS. -/
theorem test_popResult_shows_refusal :
    let t := after (.popResult 0xFF)
      (holding 1 { aWrite with state := .complete, outcome := .refused, reason := some .access, executed := .no } up)
    readRegister .resViewA t = 0x8120 ∧ readRegister .resViewB t = 0x0222 ∧ readRegister .resWords t = 0
      ∧ (t.tag 1).popped = true := by
  decide +kernel

/-- Section 9.6: the result view after the WRITE was answered REPLY-DONE. -/
theorem test_popResult_shows_done :
    let t := after (.popResult 0) (holding 1 { aWrite with state := .complete, executed := .yes } up)
    readRegister .resViewA t = 0x8101 ∧ readRegister .resViewB t = 0x0022 := by
  decide +kernel

/-- Section 10.6: RELEASE before the record is popped. -/
theorem test_release_not_popped :
    (after (.release 5) (holding 5 { aRead with state := .complete, timer := .idle } up)).host.cmdResult = .notPopped := by
  decide +kernel

/-- Section 1.12: RELEASE of a LOST tag whose final reply is owed. -/
theorem test_release_orphans :
    let t := after (.release 1)
      (holding 1 { aWrite with state := .complete, outcome := .lost, farReplyPending := true, popped := true } up)
    (t.tag 1).state = .orphaned ∧ (t.unit 2).outstanding = 1 := by
  decide +kernel

/-- Section 3.6: SELECT of a READ BLOCK with 20 words delivered. -/
theorem test_select_sets_limit :
    let t := after (.select 2) (holding 2 { aBlock with state := .complete, wordsDelivered := 20 } up)
    t.host.selected = some 2 ∧ t.host.readPointer = 0 ∧ t.host.readLimit = 20 := by
  decide +kernel

/-- Section 7.9: the pop that shows unit 3, count 2, flags 0 and 5. -/
theorem test_popAttention_owes_ack :
    let t := after (.popAttention 0) { up with attnQueue := [⟨3, ⟨0x21, 2, 41, true⟩⟩, ⟨2, ⟨4, 1, 7, true⟩⟩] }
    readRegister .attnView t = 0x8302 ∧ readRegister .attnCause t = 0x0021 ∧ (t.unit 3).ackOwed = some 41
      ∧ t.attnQueue.length = 1 := by
  decide +kernel

theorem test_clearStaging_empties_payload :
    let t := after (.clearStaging 0) stagedBlock
    readRegister .stgCount t = 0 ∧ readRegister .stgLenLanes t = 20 ∧ t.host.cmdResult = .done := by
  decide +kernel

theorem test_clearPosted_empties_latch :
    (after (.clearPosted 0) { up with latch := ⟨some ⟨3, 2, 0x100, .access⟩, 1⟩ }).latch = {} := by decide +kernel

/-- R113: the epoch wraps from 15 to 0 at the entry to TRAINING. -/
theorem test_linkStart_wraps_epoch :
    let t := after (.linkStart 0) { State.reset with link := { epoch := 15 } }
    t.link.state = .training ∧ t.link.epoch = 0 ∧ t.link.trainDue = true ∧ t.events.link = true := by
  decide +kernel

theorem test_linkStop_settles_tags :
    let t := after (.linkStop 0) (holding 0 aRead up)
    t.link.state = .down ∧ t.link.lastLoss = .hostStop ∧ (t.tag 0).outcome = .linkLost ∧ (t.tag 0).executed = .unknown
      ∧ (t.unit 3).present = false := by
  decide +kernel

/-- Table 10.4: SOFT_RESET keeps a unit's mask and the epoch, and empties the tag table. -/
theorem test_softReset_keeps_mask :
    let t := after (.softReset 0) (updUnit 3 (fun v => { v with masked := true }) (holding 0 aRead up))
    (t.unit 3).masked = true ∧ (t.unit 3).present = false ∧ t.link.epoch = 1 ∧ readRegister .levelsA t = 0x2040 := by
  decide +kernel

/-- Section 10.6: CMD 0x0B00. -/
theorem test_badCode_shows_0x1F : readRegister .cmdResult (after (.badCode 0x0B 0) up) = 0x001F := by decide +kernel

/-! ## Host accesses -/

theorem test_stgDataH_write_latches : (after (.stgDataHWrite 0x00A1) up).host.highLatch = 0x00A1 := by decide +kernel

/-- R25: the 65th word is ignored and sets ACCESS. -/
theorem test_stgDataL_write_full :
    let s := { up with staging := { payload := List.replicate 64 1 } }
    (after (.stgDataLWrite 5) s).staging = s.staging ∧ (after (.stgDataLWrite 5) s).events.access = true := by
  decide +kernel

theorem test_stgDataL_write_joins_halves :
    (after (.stgDataLWrite 0x0013) { up with host := { highLatch := 0x00A1 } }).staging.payload = [0x00A10013] := by
  decide +kernel

/-- A READ of one word, the slot 0x12345678, selected. -/
def selectedWord : State :=
  { holding 2 { aRead with state := .complete, timer := .idle, slot := 0x12345678, wordsDelivered := 1 } up with
    host := { selected := some 2, readLimit := 1 } }

theorem test_rdDataH_read_keeps_pointer :
    let t := after .rdDataHRead selectedWord
    t.host.readData = 0x1234 ∧ t.host.readPointer = 0 := by
  decide +kernel

/-- R44: the low half, then nothing: the second read returns 0 and sets ACCESS, the pointer staying at the limit. -/
theorem test_rdDataL_read_to_limit :
    let t := after .rdDataLRead selectedWord
    let t' := after .rdDataLRead t
    t.host.readData = 0x5678 ∧ t.host.readPointer = 1 ∧ t'.host.readData = 0 ∧ t'.host.readPointer = 1
      ∧ t'.events.access = true := by
  decide +kernel

/-- R141, R142, R143, Table 9.7: a read of ID at 0x00 returns 0x6241 and changes nothing in the part, a read of RD_DATA_L at
0x2E advances the pointer, and a read at 0x7E returns 0 and sets ACCESS. -/
theorem test_host_reads_by_offset :
    takeHostRead 0 selectedWord
        = .next { selectedWord with host := { selectedWord.host with readData := 0x6241 } }
      ∧ takeHostRead 23 selectedWord = exec .rdDataLRead selectedWord
      ∧ takeHostRead 63 selectedWord = exec (.unusedOffsetAccess 24 .read) selectedWord :=
  ⟨rfl, rfl, rfl⟩

/-- R105: the counts 200 and 100 add up to the limit 255. -/
theorem test_unitMask_write_releases_held :
    let s := updUnit 3 (fun v => { v with masked := true, held := some ⟨1, 100, 9, true⟩ })
      { up with host := { unitSel := 3 }, attnQueue := [⟨3, ⟨2, 200, 8, false⟩⟩] }
    let t := after (.unitMaskWrite 0) s
    t.attnQueue = [⟨3, ⟨3, 255, 9, true⟩⟩] ∧ (t.unit 3).held = none := by
  decide +kernel

/-- R130: auto-restart becomes enabled in FAULTED. -/
theorem test_linkCtrl_write_starts_restart_timer :
    let t := after (.linkCtrlWrite 0x8032) (linkIn .faulted)
    t.link.restartTimer = some 1000 ∧ readRegister .linkCtrl t = 0x8032 := by
  decide +kernel

/-- R151: RESULT and ATTN are not cleared by a write. -/
theorem test_events_write_clears_sticky_alone :
    let s := { State.reset with events := { result := true, link := true, access := true } }
    readRegister .events (after (.eventsWrite 0x0007) s) = 0x0041 := by
  decide +kernel

theorem test_eventEn_write_drives_intN :
    intAsserted (after (.eventEnWrite 0xFF84) { State.reset with events := { link := true } }) = true := by decide +kernel

/-- R153: threshold 0 is stored as 1 and 33 as 32. -/
theorem test_resultCoalesce_write_bounds :
    readRegister .resultCoalesce (after (.resultCoalesceWrite 0x1900) up) = 0x1901
      ∧ readRegister .resultCoalesce (after (.resultCoalesceWrite 0x0021) up) = 0x0020 := by
  decide +kernel

theorem test_linkCounter_write_clears_one :
    let t := after (.linkCounterWrite .rxErrors 0x1234) { up with link := { rxErrors := 5, replayCount := 6 } }
    t.link.rxErrors = 0 ∧ t.link.replayCount = 6 := by
  decide +kernel

theorem test_protoErrors_write_keeps_flag :
    let t := after (.protoErrorsWrite 9) { up with events := { protoErrors := 5, proto := true } }
    t.events.protoErrors = 0 ∧ t.events.proto = true := by
  decide +kernel

theorem test_unused_offset_read_sets_access :
    let t := after (.unusedOffsetAccess 1 .read) up
    t.events.access = true ∧ t.host.readData = 0 := by
  decide +kernel

/-- Section 10.6: a write to ID is ignored and sets ACCESS. -/
theorem test_registerWrite_to_id : (after (.registerWrite .id 0x1234) up).events.access = true := by decide +kernel

/-- R133: a replay timeout above 128 is stored as 128. -/
theorem test_registerWrite_bounds_replay_timeout :
    readRegister .linkTiming (after (.registerWrite .linkTiming 0xFFFF) up) = 0x0080 := by decide +kernel

/-- Table 9.7: the values after power-on reset that are not 0. -/
theorem test_registers_after_power_on :
    readRegister .id State.reset = 0x6241 ∧ readRegister .linkCtrl State.reset = 0x0032
      ∧ readRegister .linkTiming State.reset = 0x0019 ∧ readRegister .unitTimeout State.reset = 0x04E2
      ∧ readRegister .resultCoalesce State.reset = 0x0001 ∧ readRegister .levelsA State.reset = 0x2040 := by
  decide +kernel

/-! ## The reset pin and the receive lane -/

theorem test_resetN_holds_part :
    let t := after (.resetN true) (holding 0 aRead up)
    t = { State.reset with resetAsserted := true } ∧ after (.linkStart 0) t = t := by
  decide +kernel

/-- Section 5.12: an ORPHANED tag becomes FREE without a report, a POSTED one fills the latch. -/
theorem test_lossOfSignal_settles_posted :
    let t := after .lossOfSignal
      (holding 8 { aPosted with state := .orphaned, timer := .idle } (holding 11 { aPosted with address := 0x108 } up))
    (t.tag 8).state = .free ∧ (t.tag 11).state = .free ∧ t.latch = ⟨some ⟨11, 2, 0x108, .linkLost⟩, 0⟩
      ∧ t.link.state = .faulted := by
  decide +kernel

theorem test_train_loses_link :
    (after (.train 9) up).link.lastLoss = .farRestart ∧ (after (.train 9) (linkIn .training)).link.state = .training := by
  decide +kernel

theorem test_trainAck_enters_discovery :
    let t := after (.trainAck 1) (linkIn .training)
    t.link.state = .discovery ∧ t.link.discoveryTimer = some 5000 := by
  decide +kernel

/-- Section 8.9: ACK(4) with frames 3 to 7 in the list. -/
theorem test_ack_removes_head :
    let t := after (.ack 1 4) (sending fiveFrames up)
    t.link.send.replayList.map SentFrame.seq = [4, 5, 6, 7] ∧ t.link.send.episode = 0 := by
  decide +kernel

/-- Section 8.9: ACK(7) in the middle of the pass, its next frame 7. -/
theorem test_ack_keeps_pass :
    let t := after (.ack 1 7) (sending { fiveFrames with pass := some 4, episode := 1 } up)
    t.link.send.replayList.map SentFrame.seq = [7] ∧ t.link.send.pass = some 0 ∧ t.link.send.episode = 0 := by
  decide +kernel

/-- Section 8.9: NAK(5) with frames 4 to 7 in the list. -/
theorem test_nak_demands_pass :
    let t := after (.nak 1 5) (sending { fiveFrames with replayList := fiveFrames.replayList.tail } up)
    t.link.send.replayList.map SentFrame.seq = [5, 6, 7] ∧ t.link.send.pass = some 0 ∧ t.link.send.episode = 1
      ∧ t.link.replayCount = 1 := by
  decide +kernel

/-- Section 8.10: the frame of bad CRC. -/
theorem test_frameCheckFailure_asks_for_replay :
    let t := after (.frameCheckFailure ⟨[1, 2, 3], false⟩) up
    t.link.rxErrors = 1 ∧ t.link.recv.nakOwed = true ∧ t.link.recv.nakMade = true := by
  decide +kernel

/-- Section 8.10: frame 12 ahead of the expected 11, a NAK having been made. -/
theorem test_outOfSequence_ahead :
    let s := updRecv (fun v => { v with expected := 11, nakMade := true }) up
    let t := after (.messageOutOfSequence ⟨1, 12⟩ [0x21010200]) s
    t.link.rxErrors = 1 ∧ t.link.recv.nakOwed = false ∧ t.link.recv.expected = 11 := by
  decide +kernel

/-- Section 8.10: frame 11 again, 30 ahead of 13 and so behind it. -/
theorem test_outOfSequence_behind :
    let s := updRecv (fun v => { v with expected := 13 }) up
    let t := after (.messageOutOfSequence ⟨1, 11⟩ [0x21010200]) s
    t.link.rxErrors = 0 ∧ t.link.recv.ackOwed = true ∧ t.link.recv.expected = 13 := by
  decide +kernel

/-- Section 5.12: the final segment after the reply timer's expiry. -/
theorem test_replyData_after_timeout :
    let s := holding 0 { aBlock with state := .cancelling, cancelCause := .timeout, timer := .cancel 125 } up
    let t := after (.replyData inOrder 0 3 true false 16 8 (List.replicate 8 0xAB)) s
    (t.tag 0).state = .complete ∧ (t.tag 0).outcome = .timeout ∧ (t.tag 0).executed = .yes
      ∧ (t.tag 0).wordsReceived = 24 ∧ (t.tag 0).wordsDelivered = 0 ∧ (t.unit 3).outstanding = 0
      ∧ readChunk 1 7 t.store = 0xAB := by
  decide +kernel

/-- Section 5.12: the first segment. -/
theorem test_replyData_first_segment :
    let s := holding 0 { aBlock with state := .sent, wordsReceived := 0 } up
    let t := after (.replyData inOrder 0 3 false false 0 16 (List.replicate 16 7)) s
    (t.tag 0).state = .receiving ∧ (t.tag 0).wordsReceived = 16 ∧ (t.tag 0).timer = .reply 1250
      ∧ (t.unit 3).outstanding = 1 := by
  decide +kernel

/-- R64, R139: a REPLY-DATA of one word is an ill-formed reply, in UP and, after link loss, in DOWN (R85). -/
theorem test_replyData_of_one_word :
    let c := messageRow ⟨1, 0⟩ [0x20020300]
    c = .replyData ⟨1, 0⟩ 2 3 false false 0 0 [] ∧ (after c up).events.protoErrors = 1 ∧ (after c up).link.recv.expected = 1
      ∧ (after c (after .lossOfSignal up)).events.protoErrors = 1 := by
  decide +kernel

/-- R85, R129, R132: after link loss a reply of the old link is discarded as a protocol error and RX_ERRORS does not rise;
once LINK_STOP has ended a new training, or after SOFT_RESET (R149), it is discarded uncounted. -/
theorem test_reply_after_link_loss :
    let lost := after .lossOfSignal up
    let t := after (.replyDone ⟨1, 0⟩ 2 3) lost
    t.events.proto = true ∧ t.events.protoErrors = 1 ∧ t.link.rxErrors = 0 ∧ t.tags = lost.tags
      ∧ (after (.replyDone ⟨2, 0⟩ 2 3) lost).events.protoErrors = 0
      ∧ (after (.replyDone ⟨2, 0⟩ 2 3) (after (.linkStop 0) (after (.linkStart 0) lost))).events.protoErrors = 0
      ∧ (after (.replyDone ⟨1, 0⟩ 2 3) (after (.softReset 0) lost)).events.protoErrors = 0 := by
  decide +kernel

/-- Section 4.8: the WRITE's departure makes the MARK first, and its record enters behind the WRITE's. -/
theorem test_replyDone_releases_mark :
    let s := holding 5 { state := .waiting, kind := .mark, unit := 2 } (holding 1 aWrite up)
    let t := after (.replyDone inOrder 1 2) s
    t.results.map CompletionRecord.tag = [1, 5] ∧ (t.unit 2).orderList = [] ∧ (t.unit 2).outstanding = 0 := by
  decide +kernel

/-- Section 1.12: the late REPLY-DONE of an orphan. -/
theorem test_replyDone_frees_orphan :
    let t := after (.replyDone inOrder 1 2) (holding 1 { aWrite with state := .orphaned, timer := .idle } up)
    t.tag 1 = {} ∧ (t.unit 2).outstanding = 0 := by
  decide +kernel

/-- Section 5.12: REPLY-REFUSE ACCESS for a posted WRITE. -/
theorem test_replyRefuse_fills_latch :
    let t := after (.replyRefuse inOrder 3 2 2) (holding 3 aPosted up)
    (t.tag 3).state = .free ∧ t.latch = ⟨some ⟨3, 2, 0x100, .access⟩, 0⟩ ∧ t.events.posted = true := by
  decide +kernel

/-- Section 9.6: REPLY-REFUSE ACCESS for the WRITE. -/
theorem test_replyRefuse_completes :
    let t := after (.replyRefuse inOrder 1 2 2) (holding 1 aWrite up)
    (t.tag 1).outcome = .refused ∧ (t.tag 1).reason = some .access ∧ (t.tag 1).executed = .no := by
  decide +kernel

/-- Section 6.8: unit 4's report, and the report of limit 0. -/
theorem test_unitReport_makes_present :
    let t := after (.unitReport inOrder 4 0b0110 0x0210 4 32) (linkIn .discovery)
    (t.unit 4).present = true ∧ (t.unit 4).creditLimit = 4 ∧ t.events.unit = true
      ∧ (after (.unitReport inOrder 9 8 0x0301 0 16) (linkIn .discovery)).events.protoErrors = 1 := by
  decide +kernel

theorem test_reportEnd_makes_up :
    (after (.reportEnd inOrder) (linkIn .discovery)).link.state = .up ∧ (after (.reportEnd inOrder) up).events.proto = true := by
  decide +kernel

/-- Section 6.8: a SENT tag of the unit completes, a POSTED one is reported, another unit's stands. -/
theorem test_unitGone_settles_unit :
    let t := after (.unitGone inOrder 2) (holding 3 aRead (holding 2 aPosted (holding 1 aWrite up)))
    (t.tag 1).outcome = .unitGone ∧ (t.tag 1).executed = .unknown ∧ (t.tag 2).state = .free
      ∧ (t.tag 3).state = .sent ∧ (t.latch.record.map PostedFailure.reason) = some .unitGone := by
  decide +kernel

/-- Section 7.9: the third arrival merges in its place. -/
theorem test_attention_merges :
    let s := { up with attnQueue := [⟨3, ⟨1, 1, 40, true⟩⟩, ⟨2, ⟨4, 1, 7, true⟩⟩] }
    (after (.attention inOrder 3 41 0x20) s).attnQueue = [⟨3, ⟨0x21, 2, 41, true⟩⟩, ⟨2, ⟨4, 1, 7, true⟩⟩] := by
  decide +kernel

theorem test_undefinedMessage_is_protocol_error :
    let t := after (.undefinedMessage inOrder [0x40000000]) up
    t.events.protoErrors = 1 ∧ t.link.recv.expected = 1 := by
  decide +kernel

/-! ## Timers -/

/-- Section 5.12: tag 8's reply timer expires. -/
theorem test_replyTimer_expiry_owes_cancel :
    let t := after (.replyTimerExpiry 8) (holding 8 aPosted up)
    (t.tag 8).state = .cancelling ∧ (t.tag 8).cancelCause = .timeout ∧ t.owedCancels = [8] := by
  decide +kernel

/-- Section 1.12: the second expiry. -/
theorem test_cancelTimer_expiry_is_lost :
    let s := holding 1 { aWrite with state := .cancelling, cancelCause := .timeout, timer := .cancel 1250 } up
    let t := after (.cancelTimerExpiry 1) s
    (t.tag 1).outcome = .lost ∧ (t.tag 1).farReplyPending = true ∧ (t.unit 2).outstanding = 1 := by
  decide +kernel

/-- R115: the interval's end at the limit, and below it. -/
theorem test_trainingInterval_end_at_limit :
    let l : Link := { state := .training, trainingInterval := some 100, attempts := 50 }
    let t := after .trainingIntervalEnd { State.reset with link := l }
    t.link.state = .down ∧ t.link.lastLoss = .trainLimit
      ∧ (after .trainingIntervalEnd { State.reset with link := { l with attempts := 49 } }).link.trainDue = true := by
  decide +kernel

theorem test_discoveryTimer_expiry_faults :
    let t := after .discoveryTimerExpiry { State.reset with link := { state := .discovery, discoveryTimer := some 5000 } }
    t.link.state = .faulted ∧ t.link.lastLoss = .discoveryTimeout := by
  decide +kernel

/-- R126: the fifth demand of an episode is link loss. -/
theorem test_replayTimer_expiry_at_limit :
    (after .replayTimerExpiry (sending { fiveFrames with episode := 4 } up)).link.lastLoss = .replayLimit
      ∧ (after .replayTimerExpiry (sending { fiveFrames with episode := 3 } up)).link.send.episode = 4 := by
  decide +kernel

theorem test_ackDelayTimer_expiry_owes_ack :
    (after .ackDelayTimerExpiry (updRecv (fun v => { v with ackCount := 1, ackDelayTimer := some 20 }) up)).link.recv.ackOwed
      = true := by
  decide +kernel

theorem test_restartTimer_expiry_trains :
    (after .restartTimerExpiry { State.reset with link := { state := .faulted, restartTimer := some 1000 } }).link.state
      = .training := by
  decide +kernel

/-- Section 11.4: the holdoff timer expires at 200 µs with two records in the queue. -/
theorem test_holdoffTimer_expiry_sets_result :
    let s := holding 2 { aRead with state := .complete } (holding 7 { aRead with state := .complete } up)
    let t := after .holdoffTimerExpiry
      { s with events := { threshold := 4, holdoff := 25, holdoffTimer := some 200, enables := 1 } }
    t.events.result = true ∧ intAsserted t = true ∧ t.events.holdoffTimer = none := by
  decide +kernel

/-! ## Takes -/

/-- Section 8.10: NAK(11) is taken. -/
theorem test_nakTake_clears_what_is_owed :
    let s := updRecv (fun v => { v with expected := 11, nakOwed := true, nakMade := true, ackCount := 1 }) up
    let t := after .nakTake s
    t.link.transmitter = some (nakFrame 1 11) ∧ t.link.recv.nakOwed = false ∧ t.link.recv.nakMade = true
      ∧ t.link.recv.ackCount = 0 := by
  decide +kernel

theorem test_ackTake_waits_for_nak :
    let s := updRecv (fun v => { v with ackOwed := true, nakOwed := true }) up
    after .ackTake s = s ∧ (after .ackTake (updRecv (fun v => { v with ackOwed := true }) up)).link.recv.ackOwed = false := by
  decide +kernel

theorem test_trainTake_counts_attempt :
    let t := after .trainTake (updLink (fun l => { l with trainDue := true }) (linkIn .training))
    t.link.attempts = 1 ∧ t.link.trainDue = false ∧ t.link.trainingInterval = some 100 := by
  decide +kernel

/-- Section 8.9: the last frame of the pass is resent, and the pass ends. -/
theorem test_replayTake_ends_pass :
    let t := after .replayTake (sending { fiveFrames with pass := some 4 } up)
    t.link.transmitter = some [7] ∧ t.link.send.pass = none := by
  decide +kernel

theorem test_attentionAckTake_lowest_unit :
    let s := updUnit 3 (fun v => { v with ackOwed := some 41 }) (updUnit 2 (fun v => { v with ackOwed := some 7 }) up)
    let t := after .attentionAckTake s
    (t.unit 2).ackOwed = none ∧ (t.unit 3).ackOwed = some 41 ∧ t.link.send.next = 1 := by
  decide +kernel

/-- Section 4.9: the CANCEL of the tag that came first. -/
theorem test_cancelTake_starts_timer :
    let c : TagRecord := { aRead with state := .cancelling, cancelPending := true, timer := .idle }
    let t := after .cancelTake (holding 4 c (holding 12 c up))
    t.owedCancels = [4] ∧ (t.tag 12).timer = .cancel 1250 ∧ (t.tag 4).timer = .idle := by
  decide +kernel

/-- Section 9.6: the bytes of the REQUEST, of sequence number 6 in epoch 3. -/
theorem test_requestTake_forms_frame :
    let s := holding 1 { aWrite with state := .queued, timer := .idle } up
    let t := after .requestTake { s with link := { state := .up, epoch := 3, send := { next := 6 } } }
    (t.link.transmitter.map (fun bytes => bytes.take 20))
        = some [8, 6, 3, 4, 0x10, 1, 2, 2, 1, 0x0C, 1, 0, 0, 0, 1, 0, 0, 0, 0x12, 0x34]
      ∧ t.link.transmitter.map List.length = some 22 ∧ (t.tag 1).state = .sent ∧ (t.unit 2).outstanding = 1
      ∧ t.link.send.next = 7 := by
  decide +kernel

theorem test_transmitEnd_idles :
    (after .transmitEnd (updLink (fun l => { l with transmitter := some [1] }) up)).link.transmitter = none := by
  decide +kernel

/-! ## Witnesses: states and operands that meet the hypotheses of the obligations, clause by clause -/

/-- Lists that hold at once a QUEUED, a SENT, a CANCELLING with its CANCEL owed, a POSTED, a COMPLETE, an ORPHANED and a
WAITING tag, all of unit 3, and a RECEIVING one. -/
def mixed : State :=
  holding 31 { state := .waiting, kind := .mark, unit := 3 }
    (holding 6 { aRead with state := .queued, timer := .idle }
      (holding 5 { aRead with state := .orphaned, timer := .idle }
        (holding 4 { aRead with state := .complete, timer := .idle, wordsDelivered := 1, farReplyPending := true }
          (holding 3 { aWrite with unit := 3, state := .posted, posted := true }
            (holding 2 { aRead with state := .cancelling, cancelCause := .host, cancelPending := true, timer := .idle }
              (holding 1 aBlock (holding 0 aRead up)))))))

theorem listsExact_mixed : ListsExact mixed := by
  unfold ListsExact DispatchQueueExact OrderListsExact SentStandFirst OwedCancelsExact
  decide +kernel

theorem chunksAccounted_mixed : ChunksAccounted mixed := by
  unfold ChunksAccounted
  decide +kernel

theorem statesSound_mixed : StatesSound mixed := by
  unfold StatesSound
  decide +kernel

theorem listsExact_up : ListsExact up := by
  unfold ListsExact DispatchQueueExact OrderListsExact SentStandFirst OwedCancelsExact
  decide +kernel

theorem witness_ResetPinHoldsPart :
    ({ up with resetAsserted := true } : State).resetAsserted = true ∧ ∀ b, Instr.submit 0 ≠ .resetN b := by decide

theorem witness_LinkStateFollowsTable :
    (Instr.linkStart 0).wellFormed = true ∧ Instr.linkStart 0 ≠ .resetN true ∧ isReset (.linkStart 0) = false
      ∧ (after (.linkStart 0) State.reset).link.state ≠ State.reset.link.state := by
  decide +kernel

theorem witness_TagStatesFollowTable : (Instr.submit 0).wellFormed = true ∧ StatesSound mixed :=
  ⟨by decide, statesSound_mixed⟩

/-- A completed tag stays so, with chunks and without. -/
theorem witness_CompletedTagsStandStill :
    (Instr.popResult 0).wellFormed = true ∧ ListsExact mixed ∧ ChunksAccounted mixed
      ∧ (mixed.tag 4).state = .complete ∧ ((after (.popResult 0) mixed).tag 4).state = .complete :=
  ⟨by decide, listsExact_mixed, chunksAccounted_mixed, by decide +kernel, by decide +kernel⟩

theorem witness_FarEventsLeaveHostState :
    fromHost .lossOfSignal = false ∧ isReset .lossOfSignal = false ∧ fromHost .requestTake = false := by decide

/-- The codes at the ends of the gaps, the least bad operand, and a refusal. -/
theorem witness_RefusedCommandsChangeResultOnly :
    up.resetAsserted = false ∧ (∀ c ∈ [0x00#8, 0x0B#8, 0x0E#8, 0x10#8, 0xFF#8],
        c ∉ [0x01#8, 0x02#8, 0x03#8, 0x04#8, 0x05#8, 0x06#8, 0x07#8, 0x08#8, 0x09#8, 0x0A#8, 0x0F#8])
      ∧ 32 ≤ (32#8).toNat ∧ (after (.cancel 32) up).host.cmdResult ≠ .done
      ∧ (after (.popResult 0) up).host.cmdResult ≠ .done ∧ (after (.popAttention 0) up).host.cmdResult ≠ .done := by
  decide +kernel

/-- Every refusal of Table 2.3 is the first for some staged request. -/
theorem witness_SubmitReportsFirstFailingCheck :
    let ok : Staging := { kindCode := 2, space := .register, unit := 2, address := 0x100, laneMask := 1, payload := [7] }
    let block : Staging := { kindCode := 3, space := .memory, unit := 3, length := 64 }
    let first (g : Staging) (s : State) := firstRefusal { s with staging := g }
    up.resetAsserted = false ∧ first ok State.reset = some .linkNotUp ∧ first { ok with kindCode := 0 } up = some .badKind
      ∧ first { ok with unit := 0 } up = some .noUnit ∧ first { ok with space := .stream } up = some .space
      ∧ first { ok with address := 1 } up = some .align
      ∧ first { block with address := 0xFFFFFF04 } up = some .range ∧ first { block with address := 0xFFFFFF00 } up = none
      ∧ first { block with length := 65 } up = some .length ∧ first { ok with laneMask := 0 } up = some .lanes
      ∧ first { ok with payload := [] } up = some .payload
      ∧ first { ok with kindCode := 1, payload := [], posted := true } up = some .postedKind
      ∧ first ok { up with tags := mapTable (fun _ => aRead) up.tags } = some .tagFull
      ∧ first block { up with store := takeChunks (allChunks.take 61) up.store } = some .noBuffer := by
  decide +kernel

/-- Each of the five kinds, the blocks at 64 words and at 1. -/
theorem witness_SubmitAcceptsRequest :
    let request (g : Staging) (k : Kind) : Prop :=
      ({ up with staging := g } : State).resetAsserted = false ∧ kindOfCode g.kindCode = some k ∧ k ≠ .mark
        ∧ LowestFree 0 { up with staging := g } ∧ firstRefusal { up with staging := g } = none
    request { kindCode := 1, space := .register, unit := 2 } .read
      ∧ request { kindCode := 2, space := .register, unit := 2, laneMask := 1, payload := [7], posted := true } .write
      ∧ request { kindCode := 3, space := .memory, unit := 3, length := 64 } .readBlock
      ∧ request { kindCode := 4, space := .memory, unit := 3, length := 1, payload := [7] } .writeBlock
      ∧ request { kindCode := 5, space := .register, unit := 2, laneMask := 15, payload := [7] } .exchange := by
  unfold LowestFree
  decide +kernel

/-- A MARK to a unit with an empty order list, and one behind other tags. -/
theorem witness_SubmitAcceptsMark :
    let g (u : UnitNo) : Staging := { kindCode := 6, unit := u }
    ({ up with staging := g 2 } : State).resetAsserted = false ∧ kindOfCode (g 2).kindCode = some .mark
      ∧ LowestFree 0 { up with staging := g 2 } ∧ firstRefusal { up with staging := g 2 } = none
      ∧ (up.unit 2).orderList = []
      ∧ LowestFree 7 { mixed with staging := g 3 } ∧ firstRefusal { mixed with staging := g 3 } = none
      ∧ (mixed.unit 3).orderList ≠ [] := by
  unfold LowestFree
  decide +kernel

theorem witness_SubmitAcceptsMark_lists :
    ListsExact { up with staging := { kindCode := 6, unit := 2 } }
      ∧ ListsExact { mixed with staging := { kindCode := 6, unit := 3 } } :=
  ⟨listsExact_up, listsExact_mixed⟩

/-- Every state of a tag, the highest tag among them. -/
theorem witness_CancelFollowsTagState :
    mixed.resetAsserted = false ∧ ListsExact mixed ∧ (31#8).toNat = (31 : Tag).val
      ∧ (mixed.tag 3).posted = true ∧ (mixed.tag 4).state = .complete ∧ (mixed.tag 5).state = .orphaned
      ∧ (mixed.tag 7).state = .free
      ∧ (mixed.tag 6).state = .queued ∧ (mixed.tag 31).state = .waiting ∧ (mixed.tag 31).posted = false
      ∧ (mixed.tag 0).state = .sent ∧ (mixed.tag 1).state = .receiving ∧ (mixed.tag 2).state = .cancelling
      ∧ (mixed.tag 2).posted = false :=
  ⟨by decide +kernel, listsExact_mixed, by decide +kernel⟩

/-- The empty queue, a queue of one record, and one of two. -/
theorem witness_PopResultMovesHead :
    up.resetAsserted = false ∧ up.results = [] ∧ (∃ c, mixed.results = [c])
      ∧ ∃ c c', (holding 7 { aRead with state := .complete, timer := .idle } mixed).results = [c, c'] :=
  ⟨by decide +kernel, by decide +kernel, ⟨_, rfl⟩, ⟨_, _, rfl⟩⟩

/-- A tag not COMPLETE, one not popped, and a popped one, with a final reply owed and without. -/
theorem witness_ReleaseFreesOrOrphans :
    let popped (owed : Bool) := updTag 4 (fun r => { r with popped := true, farReplyPending := owed }) mixed
    mixed.resetAsserted = false ∧ (4#8).toNat = (4 : Tag).val ∧ ListsExact mixed ∧ (mixed.tag 0).state ≠ .complete
      ∧ (mixed.tag 4).state = .complete ∧ (mixed.tag 4).popped = false
      ∧ (popped true).resetAsserted = false ∧ ((popped true).tag 4).state = .complete
      ∧ ((popped true).tag 4).popped = true ∧ ((popped false).tag 4).farReplyPending = false :=
  ⟨by decide +kernel, by decide, listsExact_mixed, by decide +kernel⟩

theorem witness_ReleaseFreesOrOrphans_lists (owed : Bool) :
    ListsExact (updTag 4 (fun r => { r with popped := true, farReplyPending := owed }) mixed) := by
  revert owed
  unfold ListsExact DispatchQueueExact OrderListsExact SentStandFirst OwedCancelsExact
  decide +kernel

/-- A tag COMPLETE and one not; a selection with a word left, one at its limit, and none. -/
theorem witness_SelectedDataIsRead :
    mixed.resetAsserted = false ∧ (4#8).toNat = (4 : Tag).val ∧ (mixed.tag 4).state = .complete
      ∧ (mixed.tag 0).state ≠ .complete
      ∧ selectedWord.resetAsserted = false ∧ selectedWord.host.selected = some 2
      ∧ selectedWord.host.readPointer < selectedWord.host.readLimit
      ∧ (after .rdDataLRead selectedWord).host.readLimit ≤ (after .rdDataLRead selectedWord).host.readPointer
      ∧ up.host.selected = none := by
  decide +kernel

theorem witness_PopAttentionMovesHead :
    up.resetAsserted = false ∧ up.attnQueue = []
      ∧ ({ up with attnQueue := [⟨3, ⟨1, 1, 40, true⟩⟩] } : State).attnQueue = ⟨3, ⟨1, 1, 40, true⟩⟩ :: [] := by
  decide +kernel

/-- The one hypothesis of ClearsEmptyWhatTheyName, SoftResetKeepsSettings, RegisterWritesStoreFields and
EventWritesDriveInterruptLine. -/
theorem witness_out_of_reset : up.resetAsserted = false ∧ State.reset.resetAsserted = false := by decide

theorem witness_StagingPortsBuildPayload :
    let s (n : Nat) : State := { up with staging := { payload := List.replicate n 1 } }
    (s 63).resetAsserted = false ∧ (s 63).staging.payload.length < 64 ∧ 64 ≤ (s 64).staging.payload.length := by
  decide +kernel

theorem witness_IgnoredAccessesSetAccess : up.resetAsserted = false ∧ 39 ≤ (39 : Fin 64).val := by decide

/-- A mask that does not change from MASKED to UNMASKED, no held attention, and a release. -/
theorem witness_UnitMaskWriteReleasesHeld :
    let s := updUnit 0 (fun v => { v with masked := true, held := some ⟨1, 1, 9, true⟩ }) up
    s.resetAsserted = false ∧ s.host.unitSel = 0 ∧ (s.unit 0).held = some ⟨1, 1, 9, true⟩ ∧ (s.unit 0).masked = true
      ∧ (0#16).getLsbD 0 = false ∧ (1#16).getLsbD 0 = true ∧ (up.unit 0).masked = false ∧ (up.unit 0).held = none := by
  decide +kernel

theorem witness_CoalescingRaisesResult :
    let s (t : Timer) : State := { up with events := { holdoffTimer := t } }
    (s none).resetAsserted = false ∧ (s (some 8)).events.holdoffTimer.isSome = true
      ∧ (s none).events.holdoffTimer = none := by
  decide

/-- Each link state; auto-restart enabled and disabled; the restart timer running and stopped. -/
theorem witness_LinkStartEntersTraining :
    let faulted : State := { State.reset with link := { state := .faulted, autoRestart := true, restartTimer := some 1000 } }
    faulted.resetAsserted = false ∧ faulted.link.state = .faulted ∧ faulted.link.restartTimer.isSome = true
      ∧ faulted.link.autoRestart = true ∧ State.reset.link.state = .down ∧ State.reset.link.restartTimer = none
      ∧ State.reset.link.autoRestart = false ∧ (linkIn .training).link.state = .training
      ∧ (linkIn .discovery).link.state = .discovery ∧ up.link.state = .up := by
  decide +kernel

/-- A due TRAIN; the interval's end below the limit, at it, with no limit, and outside TRAINING; a stopped interval. -/
theorem witness_TrainingSendsTrains :
    let l : Link := { state := .training, trainDue := true, trainingInterval := some 100, attempts := 50 }
    let s (l : Link) : State := { State.reset with link := l }
    (s l).resetAsserted = false ∧ (s l).link.transmitter = none ∧ (s l).link.recv.nakOwed = false
      ∧ (s l).link.state = .training ∧ (s l).link.trainDue = true ∧ (s l).link.trainingInterval.isSome = true
      ∧ (s l).link.trainingLimit ≠ 0 ∧ (s l).link.trainingLimit.toNat ≤ (s l).link.attempts
      ∧ (s { l with attempts := 49 }).link.attempts < (s { l with attempts := 49 }).link.trainingLimit.toNat
      ∧ (s { l with trainingLimit := 0 }).link.trainingLimit = 0
      ∧ (s { l with state := .up }).link.state ≠ .training ∧ (s {}).link.trainingInterval = none := by
  decide

theorem witness_DiscoveryBeginsAndEnds :
    (linkIn .training).resetAsserted = false ∧ (linkIn .training).link.state = .training
      ∧ (1 : Epoch) = (linkIn .training).link.epoch ∧ (2 : Epoch) ≠ up.link.epoch
      ∧ InSession up ∧ InSession (linkIn .discovery) ∧ (linkIn .faulted).link.state = .faulted
      ∧ (1 : Epoch) = up.link.epoch ∧ InOrder inOrder (linkIn .discovery)
      ∧ (linkIn .discovery).link.state = .discovery ∧ InOrder inOrder up ∧ up.link.state = .up := by
  unfold InOrder InSession
  decide +kernel

theorem witness_LinkStopTakesLinkDown :
    up.resetAsserted = false ∧ InSession up ∧ InSession (linkIn .discovery) ∧ (linkIn .training).link.state = .training
      ∧ (linkIn .faulted).link.state = .faulted ∧ State.reset.link.state = .down := by
  unfold InSession
  decide +kernel

theorem witness_LinkLossSettlesEveryBlock :
    let d : State := { State.reset with link := { state := .discovery, discoveryTimer := some 5000 } }
    mixed.resetAsserted = false ∧ InSession mixed ∧ ¬ InSession State.reset ∧ d.link.state = .discovery
      ∧ d.link.discoveryTimer.isSome = true ∧ up.link.state ≠ .discovery ∧ up.link.discoveryTimer = none := by
  unfold InSession
  decide +kernel

/-- The window from 3 to 8: below it, at its two ends, and above; the wrong epoch, and the other link states. -/
theorem witness_AckShortensReplayList :
    let s := sending fiveFrames up
    let d := s.link.send
    s.resetAsserted = false ∧ InSession s ∧ (1 : Epoch) = s.link.epoch ∧ (2 : Epoch) ≠ s.link.epoch
      ∧ ¬ InWindow d 2 ∧ InWindow d 3 ∧ InWindow d 8 ∧ ¬ InWindow d 9
      ∧ ((3 : SeqNo) - oldestUnacknowledged d).toNat = 0 ∧ 0 < ((8 : SeqNo) - oldestUnacknowledged d).toNat
      ∧ (linkIn .training).link.state = .training ∧ State.reset.link.state = .down := by
  unfold InSession InWindow
  decide +kernel

/-- A NAK outside the window, of the next number, with a pass going on, and below and at the episode limit, where nothing
was acknowledged; of another epoch, and in TRAINING and DOWN; the replay timer running below and at the limit, and
stopped. -/
theorem witness_NakAndReplayTimerDemandPass :
    let s := sending { fiveFrames with episode := 4 } up
    let d := s.link.send
    let p := sending { fiveFrames with pass := some 2 } up
    s.resetAsserted = false ∧ InSession s ∧ (1 : Epoch) = s.link.epoch ∧ (2 : Epoch) ≠ s.link.epoch
      ∧ (linkIn .training).link.state = .training ∧ (1 : Epoch) = (linkIn .training).link.epoch
      ∧ State.reset.link.state = .down
      ∧ ¬ InWindow d 9 ∧ InWindow d 8 ∧ (8 : SeqNo) = d.next ∧ InWindow d 3
      ∧ (3 : SeqNo) ≠ d.next ∧ ((3 : SeqNo) - oldestUnacknowledged d).toNat = 0 ∧ d.pass = none ∧ 4 ≤ d.episode
      ∧ ((4 : SeqNo) - oldestUnacknowledged d).toNat = 1 ∧ d.replayTimer.isSome = true
      ∧ InSession p ∧ InWindow p.link.send 3 ∧ p.link.send.pass.isSome = true ∧ p.link.send.episode < 4
      ∧ p.link.send.replayTimer.isSome = true ∧ up.link.send.replayTimer = none := by
  unfold InSession InWindow
  decide +kernel

theorem witness_BrokenFramesAskForReplay :
    let f : RawFrame := ⟨[1, 2, 3], false⟩
    up.resetAsserted = false ∧ f.check.toOption = none ∧ InSession up ∧ (linkIn .training).link.state = .training
      ∧ State.reset.link.state = .down ∧ up.link.recv.ackDelayTimer = none
      ∧ (updRecv (fun v => { v with ackDelayTimer := some 20 }) up).link.recv.ackDelayTimer.isSome = true := by
  unfold InSession
  decide +kernel

/-- The distances 0, 1, 15, 16 and 31; the wrong epoch; the other link states; a reply after link loss, and none of another
epoch, after reset or of another message. -/
theorem witness_MessageFramesAreSequenced :
    let d (n : SeqNo) := (n - up.link.recv.expected).toNat
    messageHeader (.reportEnd ⟨1, 15⟩) = some ⟨1, 15⟩ ∧ up.resetAsserted = false ∧ InSession up
      ∧ (1 : Epoch) = up.link.epoch ∧ (2 : Epoch) ≠ up.link.epoch ∧ d 0 = 0 ∧ d 1 = 1 ∧ d 15 = 15 ∧ d 16 = 16
      ∧ 16 ≤ d 31 ∧ (linkIn .training).link.state = .training ∧ (linkIn .training).link.epoch = 1
      ∧ State.reset.link.state = .down
      ∧ replyAfterLoss (.replyDone ⟨1, 0⟩ 2 3) (after .lossOfSignal up) = true
      ∧ replyAfterLoss (.replyDone ⟨0, 0⟩ 2 3) (after .lossOfSignal up) = false
      ∧ replyAfterLoss (.replyDone ⟨0, 0⟩ 2 3) State.reset = false
      ∧ replyAfterLoss (.reportEnd ⟨1, 0⟩) (after .lossOfSignal up) = false := by
  unfold InSession
  decide +kernel

/-- Each message that its owner discards. -/
theorem witness_DiscardedMessagesAreProtocolErrors :
    InOrder inOrder mixed ∧ InOrder inOrder (linkIn .discovery)
      ∧ (∀ c ∈ [Instr.replyData inOrder 0 3 true false 0 0 [], .replyData inOrder 0 3 true false 0 17 [],
          .replyData inOrder 0 3 false true 0 1 [7], .replyDone inOrder 7 3, .replyDone inOrder 0 2,
          .replyRefuse inOrder 0 3 0, .replyRefuse inOrder 0 3 7, .unitReport inOrder 3 1 1 1 1, .unitReport inOrder 4 1 1 9 1,
          .unitReport inOrder 4 1 1 1 65, .reportEnd inOrder, .unitGone inOrder 4, .attention inOrder 4 1 1,
          .undefinedMessage inOrder []],
        messageHeader c = some inOrder ∧ DiscardedAsError c mixed)
      ∧ DiscardedAsError (.attention inOrder 3 1 1) (linkIn .discovery) := by
  refine ⟨?_, ?_, ?_, ?_⟩
  · unfold InOrder InSession
    decide +kernel
  · unfold InOrder InSession
    decide +kernel
  · repeat' first | exact List.forall_mem_nil _ | refine List.forall_mem_cons.mpr ⟨?_, ?_⟩
    all_goals simp only [DiscardedAsError, Matched]
    all_goals decide +kernel
  · simp only [DiscardedAsError]
    decide +kernel

/-- A READ BLOCK's second segment of three. -/
theorem witness_SegmentPlacesWords :
    InOrder inOrder mixed ∧ Answerable 1 3 mixed ∧ (mixed.tag 1).posted = false ∧ (mixed.tag 1).kind = .readBlock
      ∧ 1 ≤ (7#8).toNat ∧ (7#8).toNat ≤ 16 ∧ (List.replicate 7 (5 : Word)).length = (7#8).toNat
      ∧ (16#8).toNat = (mixed.tag 1).wordsReceived ∧ (16#8).toNat + (7#8).toNat < (mixed.tag 1).length := by
  unfold InOrder InSession Answerable
  decide +kernel

/-- A READ BLOCK's last segment, ending at the length, and one that ends short of it by one word. -/
theorem witness_FinalDataCompletesTag :
    InOrder inOrder mixed ∧ ListsExact mixed ∧ Answerable 1 3 mixed ∧ (mixed.tag 1).posted = false
      ∧ (mixed.tag 1).kind = .readBlock ∧ (8#8).toNat ≤ 16 ∧ (16#8).toNat = (mixed.tag 1).wordsReceived
      ∧ (16#8).toNat + (8#8).toNat = (mixed.tag 1).length ∧ (16#8).toNat + (7#8).toNat < (mixed.tag 1).length := by
  refine ⟨?_, listsExact_mixed, ?_⟩
  · unfold InOrder InSession
    decide +kernel
  · unfold Answerable
    decide +kernel

/-- A WRITE in SENT, and a READ in CANCELLING, refused CANCELLED. -/
theorem witness_DoneAndRefusalCompleteTag :
    InOrder inOrder (holding 1 aWrite up) ∧ ListsExact (holding 1 aWrite up) ∧ Answerable 1 2 (holding 1 aWrite up)
      ∧ ((holding 1 aWrite up).tag 1).posted = false ∧ ((holding 1 aWrite up).tag 1).kind = .write
      ∧ Answerable 2 3 mixed ∧ (mixed.tag 2).posted = false ∧ (6#8).toNat = RefusalReason.cancelled.code := by
  unfold InOrder InSession Answerable ListsExact DispatchQueueExact OrderListsExact SentStandFirst OwedCancelsExact
  decide +kernel

/-- A REPLY-DATA for a WRITE; for a block, one at a wrong offset, one past the end, a non-final one that ends it, a final
one that does not, and a short one that does; and a REPLY-DONE for a READ. -/
theorem witness_ViolationsCompleteProtocol :
    let s := holding 8 { aWrite with unit := 3 } mixed
    let r := mixed.tag 1
    InOrder inOrder mixed ∧ ListsExact mixed ∧ Answerable 1 3 mixed ∧ r.posted = false ∧ r.kind = .readBlock
      ∧ (15#8).toNat ≠ r.wordsReceived ∧ (16#8).toNat = r.wordsReceived ∧ r.length < (16#8).toNat + (9#8).toNat
      ∧ r.length ≤ (16#8).toNat + (8#8).toNat ∧ (16#8).toNat + (7#8).toNat ≠ r.length
      ∧ InOrder inOrder s ∧ Answerable 8 3 s ∧ (s.tag 8).posted = false ∧ (s.tag 8).kind = .write
      ∧ Answerable 0 3 mixed ∧ (mixed.tag 0).kind = .read := by
  refine ⟨?_, listsExact_mixed, ?_⟩
  · unfold InOrder InSession
    decide +kernel
  · unfold Answerable InOrder InSession
    decide +kernel

/-- A posted WRITE in POSTED, and one in CANCELLING. -/
theorem witness_PostedRepliesReachLatch :
    let s := holding 9 { aPosted with state := .cancelling, cancelCause := .timeout, timer := .cancel 1250 }
      (holding 8 aPosted up)
    RefusalReason.address ≠ .cancelled ∧ InOrder inOrder s ∧ ListsExact s ∧ Answerable 8 2 s ∧ (s.tag 8).posted = true ∧ (s.tag 8).kind = .write
      ∧ (s.tag 8).state = .posted ∧ Answerable 9 2 s ∧ (s.tag 9).posted = true ∧ (s.tag 9).state = .cancelling
      ∧ (6#8).toNat = RefusalReason.cancelled.code ∧ (1#8).toNat = RefusalReason.address.code
      ∧ (List.replicate 16 (5 : Word)).length = (16#8).toNat := by
  refine ⟨by decide, ?_⟩
  unfold InOrder InSession Answerable ListsExact DispatchQueueExact OrderListsExact SentStandFirst OwedCancelsExact
  decide +kernel

theorem witness_LateRepliesEndDebt :
    InOrder inOrder mixed ∧ ListsExact mixed ∧ ChunksAccounted mixed ∧ (mixed.unit 3).present = true
      ∧ (mixed.tag 4).unit = 3 ∧ (mixed.tag 4).state = .complete ∧ (mixed.tag 4).farReplyPending = true
      ∧ (mixed.tag 5).unit = 3 ∧ (mixed.tag 5).state = .orphaned := by
  refine ⟨?_, listsExact_mixed, chunksAccounted_mixed, by decide +kernel⟩
  unfold InOrder InSession
  decide +kernel

/-- A reply timer in SENT, RECEIVING and POSTED; a cancel timer for a posted tag and for another; a stopped timer. -/
theorem witness_TagTimersExpire :
    let c : TagRecord := { aPosted with state := .cancelling, cancelCause := .timeout, timer := .cancel 1250 }
    let s := holding 9 { c with posted := false } (holding 8 c up)
    mixed.resetAsserted = false ∧ ListsExact mixed ∧ (mixed.tag 0).timer = .reply 1250 ∧ (mixed.tag 0).state = .sent
      ∧ (mixed.tag 1).timer = .reply 125 ∧ (mixed.tag 1).state = .receiving ∧ (mixed.tag 3).timer = .reply 1250
      ∧ (mixed.tag 3).state = .posted ∧ (mixed.tag 6).timer = .idle
      ∧ s.resetAsserted = false ∧ ListsExact s ∧ (s.tag 8).timer = .cancel 1250 ∧ (s.tag 8).state = .cancelling
      ∧ (s.tag 8).posted = true ∧ (s.tag 9).timer = .cancel 1250 ∧ (s.tag 9).posted = false := by
  refine ⟨by decide +kernel, listsExact_mixed, ?_⟩
  unfold ListsExact DispatchQueueExact OrderListsExact SentStandFirst OwedCancelsExact
  decide +kernel

/-- The least and the greatest values of a report. -/
theorem witness_UnitReportMakesPresent :
    InOrder inOrder (linkIn .discovery) ∧ ((linkIn .discovery).unit 15).present = false ∧ 1 ≤ (1#8).toNat
      ∧ (8#8).toNat ≤ 8 ∧ (64#8).toNat ≤ 64 := by
  unfold InOrder InSession
  decide +kernel

theorem witness_UnitGoneSettlesUnit :
    InOrder inOrder mixed ∧ ListsExact mixed ∧ (mixed.unit 3).present = true := by
  refine ⟨?_, listsExact_mixed, by decide +kernel⟩
  unfold InOrder InSession
  decide +kernel

theorem witness_AttentionsAreQueuedOrHeld :
    let s := updUnit 2 (fun v => { v with masked := true }) up
    InOrder inOrder s ∧ s.link.state = .up ∧ (s.unit 3).present = true ∧ (s.unit 3).masked = false
      ∧ (s.unit 2).present = true ∧ (s.unit 2).masked = true := by
  unfold InOrder InSession
  decide +kernel

/-- A busy transmitter, and an idle one with nothing to send: no item's take is the arbiter's. -/
theorem witness_TakesFollowArbiterOrder :
    up.resetAsserted = false ∧ ¬ (up.link.transmitter = none ∧ up.link.recv.nakOwed = true)
      ∧ (updLink (fun l => { l with transmitter := some [1] }) up).link.transmitter ≠ none := by
  decide +kernel

theorem witness_ControlTakesSendFrames :
    let owing := updRecv (fun v => { v with ackOwed := true, nakOwed := true }) up
    let acking := updRecv (fun v => { v with ackOwed := true }) up
    let passing := sending { fiveFrames with pass := some 4 } up
    owing.resetAsserted = false ∧ owing.link.transmitter = none ∧ owing.link.recv.nakOwed = true
      ∧ acking.link.recv.nakOwed = false ∧ acking.link.recv.ackOwed = true ∧ InSession acking
      ∧ passing.link.transmitter = none ∧ passing.link.recv.ackOwed = false ∧ passing.link.state ≠ .training
      ∧ passing.link.send.pass = some 4 ∧ passing.link.send.replayList[4]? = some ⟨7, [7]⟩ := by
  unfold InSession
  decide +kernel

theorem witness_MessageTakesSendFrames :
    let owing := updUnit 3 (fun v => { v with ackOwed := some 41 }) up
    let waiting := holding 6 { aRead with state := .queued, timer := .idle } up
    (∀ s ∈ [owing, mixed, waiting],
      s.resetAsserted = false ∧ s.link.transmitter = none ∧ s.link.recv.nakOwed = false ∧ s.link.recv.ackOwed = false
        ∧ s.link.state = .up ∧ s.link.send.replayList.length < 8 ∧ s.link.send.pass = none)
      ∧ (owing.unit 3).ackOwed = some 41 ∧ (∀ v, v < (3 : UnitNo) → (owing.unit v).ackOwed = none)
      ∧ (∀ v, (mixed.unit v).ackOwed = none) ∧ mixed.owedCancels.head? = some 2
      ∧ (∀ v, (waiting.unit v).ackOwed = none) ∧ waiting.owedCancels = [] ∧ waiting.dispatchQueue.find? (eligible waiting) = some 6 := by
  decide +kernel

theorem witness_OneEligibleTagPerUnit :
    let s := holding 6 { aRead with state := .queued, timer := .idle } up
    OrderListsExact s ∧ eligible s 6 = true ∧ (s.tag 6).unit = (s.tag 6).unit := by
  unfold OrderListsExact
  decide +kernel

/-- The longest body; a frame of 5 bytes, one broken off, and one whose last two bytes are not the CRC of the others. -/
theorem witness_FramesReadBackAsFormed :
    (List.replicate 20 (5 : Word)).length ≤ 20 ∧ ([1, 2, 3, 4, 5] : List Byte).length < 6
      ∧ (⟨[1, 2, 3, 4, 5, 6], true⟩ : RawFrame).brokenOff = true
      ∧ (0x29#8 ++ 0xB2#8 : BitVec 16) ≠ crc16 [0x31, 0x32, 0x33, 0x34, 0x35, 0x36, 0x37, 0x38, 0x39] := by
  decide +kernel

/-- A register, the two data ports, and the first and the last unused offset. -/
theorem witness_PortsActAsTheirRows :
    Reg.ofIndex 1 = some .cmd ∧ decodeHostRead 1 = none ∧ decodeHostRead 22 = some .rdDataHRead
      ∧ decodeHostRead 23 = some .rdDataLRead ∧ decodeHostRead 39 = some (.unusedOffsetAccess 0 .read)
      ∧ decodeHostRead 63 = some (.unusedOffsetAccess 24 .read) ∧ Reg.ofIndex 39 = none ∧ Reg.ofIndex 63 = none
      ∧ 0x10#8 ∉ [0x20#8, 0x21#8, 0x22#8, 0x30#8, 0x31#8, 0x32#8, 0x33#8]
      ∧ (RawFrame.check ⟨frameBytes 0x08#8 6 3 [0x21010200], false⟩).toOption = some (.message ⟨3, 6⟩ [0x21010200]) := by
  decide +kernel

theorem witness_RequestCarriesRecord :
    aBlock.length < 256 ∧ aRead.kind = .read ∧ aWrite.kind = .write
      ∧ ({ aBlock with kind := .writeBlock } : TagRecord).kind = .writeBlock ∧ 23 < aBlock.length := by
  decide

/-- Words up to the last place of the list. -/
theorem witness_PlacedWordsReadBack :
    let chunkList : List ChunkNo := [3, 6]
    chunkList.Nodup ∧ 30 + [(1 : Word), 2].length ≤ 16 * chunkList.length ∧ 29 < 30 ∧ (7 : ChunkNo) ∉ chunkList
      ∧ [(1 : Word), 2][1]? = some 2 := by
  decide

theorem witness_RegistersShowState :
    let c : CompletionRecord := ⟨31, .exchange, 15, .protocol, some .cancelled, .unknown, true, 64⟩
    let s : State := { mixed with
      latch := ⟨some ⟨3, 2, 0x100, .access⟩, 1⟩
      host := { resultView := ⟨true, some c⟩, attnView := ⟨true, 15, 255, 0xFFFF⟩, unitSel := 3 } }
    s.results.length ≤ 32 ∧ s.attnQueue.length ≤ 16 ∧ s.latch.record = some ⟨3, 2, 0x100, .access⟩
      ∧ s.host.resultView.shown = some c ∧ s.host.attnView.count ≤ 255 ∧ (s.unit s.host.unitSel).creditLimit ≤ 15
      ∧ (s.unit s.host.unitSel).outstanding ≤ 15 ∧ State.reset.latch.record = none
      ∧ s.events.threshold ≤ 32 ∧ selectedWord.host.selected = some 2
      ∧ selectedWord.host.readPointer < selectedWord.host.readLimit ∧ State.reset.host.selected = none
      ∧ State.reset.host.resultView.shown = none ∧ State.reset.host.resultView.valid = false := by
  decide +kernel

/-- The mixed lists, with loss of signal waiting. -/
def losing : State := { mixed with pending := [.lossOfSignal] }

theorem step_losing_proceeds : ∃ t, step losing = .next t := ⟨_, rfl⟩

theorem witness_KeptListsAndResultQueue :
    ListsExact losing ∧ ResultQueueExact losing ∧ FreeTagsBlank losing ∧ MarksReleased losing := by
  refine ⟨listsExact_mixed, ?_⟩
  unfold ResultQueueExact FreeTagsBlank MarksReleased
  decide +kernel

theorem witness_KeptTagStatesAndTimers : StatesSound losing ∧ ListsExact losing ∧ TagTimersSound losing := by
  refine ⟨statesSound_mixed, listsExact_mixed, fun t => ?_⟩
  have h : ∀ t, (losing.tag t).timer = .idle
      ∨ ((losing.tag t).timer = .reply 1250 ∧ ((losing.tag t).state = .sent ∨ (losing.tag t).state = .posted))
      ∨ ((losing.tag t).timer = .reply 125 ∧ (losing.tag t).state = .receiving) := by
    decide +kernel
  obtain h | ⟨h, h' | h'⟩ | ⟨h, h'⟩ := h t
  · simp [h]
  all_goals simp [h, h']

theorem witness_KeptChunksAndCredits :
    let s := { holding 1 aWrite (holding 0 aRead up) with pending := [.replyDone inOrder 1 2] }
    ChunksAccounted losing ∧ CreditsExact s ∧ (s.unit 2).outstanding = 1 := by
  refine ⟨chunksAccounted_mixed, ?_⟩
  unfold CreditsExact
  decide +kernel

/-- The link UP, where tags may be live, and not UP. -/
theorem witness_KeptQuietUnlessUp :
    QuietUnlessUp losing ∧ DirectorySound losing
      ∧ QuietUnlessUp { linkIn .discovery with pending := [.reportEnd inOrder] }
      ∧ DirectorySound { linkIn .discovery with pending := [.reportEnd inOrder] } := by
  unfold QuietUnlessUp DirectorySound
  exact ⟨by decide +kernel, by decide +kernel, by decide +kernel, by decide +kernel⟩

theorem witness_KeptLinkSound :
    let s := { sending fiveFrames up with pending := [.nak 1 5] }
    SendSideSound s ∧ LinkTimersSound s := by
  have h : ∀ i < 5, ∀ f, fiveFrames.replayList[i]? = some f → f.seq = 8 - BitVec.ofNat 5 (5 - i) := by decide +kernel
  refine ⟨⟨by decide, fun i f e => ?_, by decide +kernel⟩, ?_⟩
  · obtain ⟨hi, -⟩ := List.getElem?_eq_some_iff.mp e
    exact h i hi f e
  · unfold LinkTimersSound
    decide +kernel

/-- A selection, a record in the attention queue, and a held attention at the greatest count. -/
theorem witness_KeptSelectionAttentionsCounts :
    let s : State := updUnit 2 (fun v => { v with held := some ⟨1, 255, 9, true⟩ })
      { selectedWord with attnQueue := [⟨3, ⟨1, 1, 40, true⟩⟩], pending := [.rdDataLRead] }
    SelectionSound s ∧ AttentionsSound s ∧ CountsInRange s ∧ LengthsInRange s ∧ ResultFlagSound s := by
  refine ⟨?_, ⟨by decide +kernel, by decide +kernel, ?_⟩, ?_⟩
  · show (_ ∧ _ ∧ _)
    decide +kernel
  · have h : ∀ u : UnitNo, ((updUnit 2 (fun v => { v with held := some (⟨1, 255, 9, true⟩ : Attn) }) selectedWord).unit u).held
        = if u = 2 then some ⟨1, 255, 9, true⟩ else none := by
      decide +kernel
    intro u a hu
    have e := (h u).symm.trans hu
    by_cases hv : u = 2
    · rw [if_pos hv] at e
      cases e
      decide
    · rw [if_neg hv] at e
      cases e
  · unfold CountsInRange LengthsInRange ResultFlagSound
    decide +kernel

end Sys2Proof.Tests
end

section
/-! SUPPORT. The shared operations of the tag table in their final form: the three ways in which a tag leaves its lists as one
operation, the MARKs that a departure releases, and the whole of a settlement. -/

namespace Sys2Proof.Machine

/-! ## Tables, entry by entry -/

/-- Two tables are equal where their entries are. -/
theorem vector_ext_get {α : Type} {n : Nat} {v w : Vector α n} (h : ∀ i : Fin n, v.get i = w.get i) : v = w := by
  apply Vector.ext
  intro i hi
  simpa [Vector.get_eq_getElem] using h ⟨i, hi⟩

theorem tags_eq_of {s s' : State} (h : ∀ x, s'.tag x = s.tag x) : s'.tags = s.tags := vector_ext_get h

theorem units_eq_of {s s' : State} (h : ∀ v, s'.unit v = s.unit v) : s'.units = s.units := vector_ext_get h

/-- Two updates of one tag are one. -/
theorem updTag_updTag (t : Tag) (f g : TagRecord → TagRecord) (s : State) :
    updTag t f (updTag t g s) = updTag t (fun r => f (g r)) s := by
  have h : (updTag t f (updTag t g s)).tags = (updTag t (fun r => f (g r)) s).tags := tags_eq_of fun x => by
    simp only [tag_updTag]
    split <;> simp
  exact congrArg (fun v => { s with tags := v }) h

/-- Updates of one tag that give the same record are the same. -/
theorem updTag_congr {t : Tag} {f g : TagRecord → TagRecord} {s : State} (h : f (s.tag t) = g (s.tag t)) :
    updTag t f s = updTag t g s := by
  unfold updTag
  rw [h]

/-! ## Lists -/

/-- A list without the elements of its front that satisfy p is the rest behind them. -/
theorem filter_not_mem_takeWhile {α : Type} [DecidableEq α] (p : α → Bool) {l : List α} (hl : l.Nodup) :
    l.filter (fun x => decide (x ∉ l.takeWhile p)) = l.dropWhile p := by
  have h : l.takeWhile p ++ l.dropWhile p = l := List.takeWhile_append_dropWhile
  have hd : ∀ x ∈ l.dropWhile p, x ∉ l.takeWhile p := fun x hx hx' =>
    (List.nodup_append.mp (h.symm ▸ hl : (l.takeWhile p ++ l.dropWhile p).Nodup)).2.2 x hx' x hx rfl
  generalize l.takeWhile p = front, l.dropWhile p = back at *
  rw [← h, List.filter_append, List.filter_eq_nil_iff.mpr (by simp), List.filter_eq_self.mpr (by simpa using hd),
    List.nil_append]

/-- Taking an absent element out of a list leaves the list. -/
theorem filter_ne_of_not_mem {α : Type} [DecidableEq α] {l : List α} {t : α} (h : t ∉ l) :
    l.filter (fun x => decide (x ≠ t)) = l :=
  List.filter_eq_self.mpr fun _ hx => decide_eq_true fun e => h (e ▸ hx)

/-! ## The three ways out of the lists -/

/-- How a tag leaves its lists: it completes with an ending, becomes FREE or becomes ORPHANED (Table 1.3). -/
inductive Fate where
  | complete (e : Ending)
  | free
  | orphan

/-- The operation of the tag table that a fate is. -/
def Fate.act : Fate → Tag → State → State
  | .complete e, t, s => completeTag t e s
  | .free, t, s => freeTag t s
  | .orphan, t, s => orphanTag t s

/-- The record that a fate leaves. -/
def Fate.record : Fate → TagRecord → TagRecord
  | .complete e, r => completedRecord e r
  | .free, _ => {}
  | .orphan, r =>
    { r with state := .orphaned, chunkList := [], timer := .idle, cancelPending := false, farReplyPending := false }

/-- The completion record that a fate appends to the result queue, if any (R11). -/
def Fate.own : Fate → Tag → TagRecord → List CompletionRecord
  | .complete e, t, r => [completionOf t (completedRecord e r)]
  | .free, _, _ | .orphan, _, _ => []

/-- The chunks that a fate returns to the pool (R39). -/
def Fate.returned : Fate → TagRecord → List ChunkNo
  | .complete _, _ => []
  | .free, r | .orphan, r => r.chunkList

theorem Fate.tag_act (f : Fate) (t x : Tag) (s : State) :
    (f.act t s).tag x = if x = t then f.record (s.tag t) else s.tag x := by
  cases f with
  | complete e => exact tag_completeTag t x e s
  | free => exact tag_freeTag t x s
  | orphan => exact tag_orphanTag t x s

theorem Fate.unit_act (f : Fate) (t : Tag) (s : State) (v : UnitNo) : (f.act t s).unit v = (leaveLists t s).unit v := by
  cases f with
  | complete e => exact unit_completeTag t e s v
  | free => exact unit_freeTag t s v
  | orphan => exact unit_orphanTag t s v

/-- Everything that a fate does. -/
theorem Fate.act_eq (f : Fate) (t : Tag) (s : State) :
    f.act t s = { s with
      tags := (f.act t s).tags, units := (f.act t s).units
      results := s.results ++ f.own t (s.tag t)
      store := putChunks (f.returned (s.tag t)) s.store
      dispatchQueue := s.dispatchQueue.filter (fun x => x ≠ t)
      owedCancels := s.owedCancels.filter (fun x => x ≠ t) } := by
  cases f with
  | complete e => exact completeTag_eq t e s
  | free =>
    rw [show Fate.free.own t (s.tag t) = [] from rfl, List.append_nil]
    exact freeTag_eq t s
  | orphan =>
    rw [show Fate.orphan.own t (s.tag t) = [] from rfl, List.append_nil]
    exact orphanTag_eq t s

theorem Fate.results_act (f : Fate) (t : Tag) (s : State) : (f.act t s).results = s.results ++ f.own t (s.tag t) := by
  rw [f.act_eq]

theorem Fate.dispatchQueue_act (f : Fate) (t : Tag) (s : State) :
    (f.act t s).dispatchQueue = s.dispatchQueue.filter (fun x => x ≠ t) := by
  rw [f.act_eq]

theorem Fate.owedCancels_act (f : Fate) (t : Tag) (s : State) :
    (f.act t s).owedCancels = s.owedCancels.filter (fun x => x ≠ t) := by
  rw [f.act_eq]

theorem Fate.store_act (f : Fate) (t : Tag) (s : State) :
    (f.act t s).store = putChunks (f.returned (s.tag t)) s.store := by
  rw [f.act_eq]

theorem Fate.link_act (f : Fate) (t : Tag) (s : State) : (f.act t s).link = s.link := by
  rw [f.act_eq]

/-- No fate leaves a tag that stands in a list. -/
@[simp] theorem Fate.inOrderList_record (f : Fate) (r : TagRecord) : (f.record r).state.inOrderList = false := by
  cases f <;> rfl

@[simp] theorem Fate.cancelPending_record (f : Fate) (r : TagRecord) : (f.record r).cancelPending = false := by
  cases f <;> rfl

/-- The order lists after a fate: the tag's own loses it. -/
theorem Fate.orderList_act (f : Fate) (t : Tag) (s : State) (v : UnitNo) :
    ((f.act t s).unit v).orderList =
      if v = (s.tag t).unit then (s.unit v).orderList.filter (fun x => x ≠ t) else (s.unit v).orderList := by
  rw [f.unit_act, unit_leaveLists]
  split <;> rfl

/-! ## The MARKs that stand first -/

/-- The WAITING MARKs at the front of a unit's order list. -/
def frontMarks (u : UnitNo) (s : State) : List Tag :=
  (s.unit u).orderList.takeWhile (fun t => (s.tag t).state = .waiting)

theorem releaseMarks_foldl (u : UnitNo) (s : State) :
    releaseMarks u s = (frontMarks u s).foldl (fun s t => completeTag t markEnding s) s := rfl

theorem tag_foldl_completeTag (l : List Tag) (x : Tag) (s : State) :
    (l.foldl (fun s t => completeTag t markEnding s) s).tag x = if x ∈ l then releasedMark (s.tag x) else s.tag x := by
  induction l generalizing s with
  | nil => simp
  | cons a l ih =>
    rw [List.foldl_cons, ih, tag_completeTag]
    by_cases hxa : x = a
    · subst hxa
      simp only [if_true, List.mem_cons_self]
      split <;> rfl
    · simp [hxa]

theorem unit_foldl_completeTag (l : List Tag) (v : UnitNo) (s : State) :
    (l.foldl (fun s t => completeTag t markEnding s) s).unit v
      = { s.unit v with
        orderList := (s.unit v).orderList.filter (fun x => decide ¬(x ∈ l ∧ (s.tag x).unit = v)) } := by
  induction l generalizing s with
  | nil => simp
  | cons a l ih =>
    have hu (x : Tag) : ((completeTag a markEnding s).tag x).unit = (s.tag x).unit := by
      rw [tag_completeTag]
      split
      · next e => rw [e]; rfl
      · rfl
    rw [List.foldl_cons, ih, unit_completeTag, unit_leaveLists]
    simp only [hu]
    have key : ∀ q : List Tag, (q.filter (fun x => decide ¬(x ∈ a :: l ∧ (s.tag x).unit = v)))
        = (if v = (s.tag a).unit then q.filter (fun x => decide (x ≠ a)) else q).filter
          (fun x => decide ¬(x ∈ l ∧ (s.tag x).unit = v)) := by
      intro q
      split
      · next e =>
        rw [List.filter_filter]
        apply List.filter_congr
        intro x _
        by_cases hxa : x = a
        · subst hxa
          simp [e]
        · simp [hxa]
      · next e =>
        apply List.filter_congr
        intro x _
        by_cases hxa : x = a
        · subst hxa
          have : ¬ (s.tag x).unit = v := fun h => e h.symm
          simp [this]
        · simp [hxa]
    rw [key]
    split <;> rfl

theorem results_foldl_completeTag (l : List Tag) (s : State) :
    (l.foldl (fun s t => completeTag t markEnding s) s).results
      = s.results ++ l.map (fun m => completionOf m (releasedMark (s.tag m))) := by
  induction l generalizing s with
  | nil => simp
  | cons a l ih =>
    have own : (completeTag a markEnding s).results = s.results ++ [completionOf a (releasedMark (s.tag a))] := by
      rw [completeTag_eq]
      rfl
    have same (m : Tag) : releasedMark ((completeTag a markEnding s).tag m) = releasedMark (s.tag m) := by
      rw [tag_completeTag]
      split
      · next e => rw [e]; rfl
      · rfl
    rw [List.foldl_cons, ih, own]
    simp only [same, List.append_assoc, List.map_cons, List.singleton_append]

theorem queues_foldl_completeTag (l : List Tag) (s : State) :
    (l.foldl (fun s t => completeTag t markEnding s) s).dispatchQueue = s.dispatchQueue.filter (fun x => decide (x ∉ l))
      ∧ (l.foldl (fun s t => completeTag t markEnding s) s).owedCancels
        = s.owedCancels.filter (fun x => decide (x ∉ l)) := by
  induction l generalizing s with
  | nil => simp
  | cons a l ih =>
    rw [List.foldl_cons, (ih _).1, (ih _).2, completeTag_eq]
    simp only [List.filter_filter, List.mem_cons, not_or]
    constructor <;> (apply List.filter_congr; intro x _; simp [Bool.and_comm])

/-- The records after the MARKs that stand first were released: theirs are complete, no other changes (R54). -/
theorem tag_releaseMarks (u : UnitNo) (x : Tag) (s : State) :
    (releaseMarks u s).tag x = if x ∈ frontMarks u s then releasedMark (s.tag x) else s.tag x :=
  tag_foldl_completeTag _ x s

theorem unit_releaseMarks (u v : UnitNo) (s : State) :
    (releaseMarks u s).unit v = { s.unit v with
      orderList := (s.unit v).orderList.filter (fun x => decide ¬(x ∈ frontMarks u s ∧ (s.tag x).unit = v)) } :=
  unit_foldl_completeTag _ v s

theorem results_releaseMarks (u : UnitNo) (s : State) :
    (releaseMarks u s).results
      = s.results ++ (frontMarks u s).map (fun m => completionOf m (releasedMark (s.tag m))) :=
  results_foldl_completeTag _ s

theorem dispatchQueue_releaseMarks (u : UnitNo) (s : State) :
    (releaseMarks u s).dispatchQueue = s.dispatchQueue.filter (fun x => decide (x ∉ frontMarks u s)) :=
  (queues_foldl_completeTag _ s).1

theorem owedCancels_releaseMarks (u : UnitNo) (s : State) :
    (releaseMarks u s).owedCancels = s.owedCancels.filter (fun x => decide (x ∉ frontMarks u s)) :=
  (queues_foldl_completeTag _ s).2

theorem link_releaseMarks (u : UnitNo) (s : State) : (releaseMarks u s).link = s.link := by
  rw [releaseMarks_eq]

theorem mem_frontMarks {u : UnitNo} {x : Tag} {s : State} (h : x ∈ frontMarks u s) :
    x ∈ (s.unit u).orderList ∧ (s.tag x).state = .waiting :=
  ⟨(List.takeWhile_sublist _).mem h, by simpa using List.mem_takeWhile_imp h⟩

/-- A tag leaves its lists, and the MARKs that then stand first in its unit's order list complete behind it. -/
def Fate.depart (f : Fate) (t : Tag) (s : State) : State := releaseMarks (s.tag t).unit (f.act t s)

theorem completeAndRelease_eq (t : Tag) (e : Ending) (s : State) :
    completeAndRelease t e s = (Fate.complete e).depart t s := rfl

theorem freeAndRelease_eq (t : Tag) (s : State) : freeAndRelease t s = Fate.free.depart t s := rfl

theorem orphanAndRelease_eq (t : Tag) (s : State) : orphanAndRelease t s = Fate.orphan.depart t s := rfl

/-! ## Settlement -/

/-- The settlement of one tag by its state: nothing for a FREE one, the end of the debt for a COMPLETE one, and else a fate
(R17, R18). -/
theorem settleTag_cases (outcome : TxOutcome) (reason : PostedReason) (t : Tag) (s : State) :
    ((s.tag t).state = .free ∧ settleTag outcome reason t s = s)
      ∨ ((s.tag t).state = .complete
        ∧ settleTag outcome reason t s = updTag t (fun r => { r with farReplyPending := false }) s)
      ∨ ((s.tag t).state = .orphaned ∧ settleTag outcome reason t s = Fate.free.act t s)
      ∨ ((s.tag t).state.inOrderList = true ∧ (s.tag t).posted = true
        ∧ settleTag outcome reason t s = Fate.free.act t (reportPosted t reason s))
      ∨ ((s.tag t).state.inOrderList = true ∧ (s.tag t).posted = false
        ∧ settleTag outcome reason t s
          = (Fate.complete ⟨outcome, none, if (s.tag t).state.unsent then .no else .unknown, 0, false⟩).act t s) := by
  have live (hl : (s.tag t).state.inOrderList = true) (e : settleTag outcome reason t s =
      if (s.tag t).posted then freeTag t (reportPosted t reason s)
      else completeTag t ⟨outcome, none, if (s.tag t).state.unsent then .no else .unknown, 0, false⟩ s) :
      ((s.tag t).state.inOrderList = true ∧ (s.tag t).posted = true
        ∧ settleTag outcome reason t s = Fate.free.act t (reportPosted t reason s))
      ∨ ((s.tag t).state.inOrderList = true ∧ (s.tag t).posted = false
        ∧ settleTag outcome reason t s
          = (Fate.complete ⟨outcome, none, if (s.tag t).state.unsent then .no else .unknown, 0, false⟩).act t s) := by
    rw [e]
    cases hp : (s.tag t).posted with
    | true => exact .inl ⟨hl, rfl, rfl⟩
    | false => exact .inr ⟨hl, rfl, rfl⟩
  cases hs : (s.tag t).state
  case free => exact .inl ⟨rfl, by simp only [settleTag, hs]⟩
  case complete => exact .inr (.inl ⟨rfl, by simp only [settleTag, hs]⟩)
  case orphaned => exact .inr (.inr (.inl ⟨rfl, by simp only [settleTag, hs]; rfl⟩))
  all_goals
    right; right; right
    rw [← hs]
    exact live (by rw [hs]; rfl) (by simp only [settleTag, hs])

end Sys2Proof.Machine
end


section
/-! SUPPORT. What one event can do, said once: some blocks other than the tag table change (Aside), then at most one event of
the tag table happens (TagEvent), then other blocks change again. exec_happens says so of every command. -/

namespace Sys2Proof.Machine

/-! ## Changes beside the tag table -/

/-- A change of link state that is no link loss: none, or one out of DOWN, TRAINING or FAULTED, or that from DISCOVERY to UP
(Table 8.2). -/
def LinkAside (p q : LinkState) : Prop := q = p ∨ (p ≠ .up ∧ (p = .discovery → q = .up))

/-- A change of a unit record that leaves its learned fields, its outstanding count and its order list: the host-owned
fields, the held attention, and the ack owed, which only a PRESENT unit comes to have (R108). -/
def UnitAside (r r' : UnitRecord) : Prop :=
  r' = { r with held := r'.held, ackOwed := r'.ackOwed, replyTimeout := r'.replyTimeout, masked := r'.masked }
    ∧ (r'.ackOwed = none ∨ r'.ackOwed = r.ackOwed ∨ r.present = true)

/-- What changes no tag, no queue of tags, no chunk and nothing learned of a unit. -/
structure Aside (s s' : State) : Prop where
  tags : s'.tags = s.tags
  results : s'.results = s.results
  store : s'.store = s.store
  dispatchQueue : s'.dispatchQueue = s.dispatchQueue
  owedCancels : s'.owedCancels = s.owedCancels
  units : ∀ v, UnitAside (s.unit v) (s'.unit v)
  link : LinkAside s.link.state s'.link.state

theorem LinkAside.trans {p q r : LinkState} (h : LinkAside p q) (h' : LinkAside q r) : LinkAside p r := by
  obtain rfl | ⟨hp, hq⟩ := h
  · exact h'
  obtain rfl | ⟨hq', -⟩ := h'
  · exact .inr ⟨hp, hq⟩
  · exact .inr ⟨hp, fun e => absurd (hq e) hq'⟩

theorem UnitAside.refl (r : UnitRecord) : UnitAside r r := ⟨rfl, .inr (.inl rfl)⟩

theorem UnitAside.trans {r r' r'' : UnitRecord} (h : UnitAside r r') (h' : UnitAside r' r'') : UnitAside r r'' := by
  obtain ⟨e, ha⟩ := h
  obtain ⟨e', ha'⟩ := h'
  have hp : r'.present = r.present := by rw [e]
  refine ⟨by rw [e', e], ?_⟩
  obtain ha' | ha' | ha' := ha'
  · exact .inl ha'
  · rwa [ha']
  · exact .inr (.inr (hp ▸ ha'))

theorem Aside.refl (s : State) : Aside s s := ⟨rfl, rfl, rfl, rfl, rfl, fun _ => .refl _, .inl rfl⟩

theorem Aside.trans {s s' s'' : State} (h : Aside s s') (h' : Aside s' s'') : Aside s s'' :=
  ⟨h'.tags.trans h.tags, h'.results.trans h.results, h'.store.trans h.store, h'.dispatchQueue.trans h.dispatchQueue,
    h'.owedCancels.trans h.owedCancels, fun v => (h.units v).trans (h'.units v), h.link.trans h'.link⟩

theorem Aside.tag {s s' : State} (h : Aside s s') (x : Tag) : s'.tag x = s.tag x := by
  unfold State.tag
  rw [h.tags]

theorem Aside.orderList {s s' : State} (h : Aside s s') (v : UnitNo) : (s'.unit v).orderList = (s.unit v).orderList := by
  rw [(h.units v).1]

/-! ### The asides of the machine -/

/-- What keeps the tag table, its queues, the store, the units and the link state is an aside. -/
theorem aside_of_same {s s' : State}
    (h : (s'.tags, s'.results, s'.store, s'.dispatchQueue, s'.owedCancels, s'.units, s'.link.state)
      = (s.tags, s.results, s.store, s.dispatchQueue, s.owedCancels, s.units, s.link.state)) : Aside s s' := by
  simp only [Prod.mk.injEq] at h
  obtain ⟨ht, hr, hs, hd, ho, hu, hl⟩ := h
  refine ⟨ht, hr, hs, hd, ho, fun v => ?_, .inl hl⟩
  unfold State.unit
  rw [hu]
  exact .refl _

theorem aside_updHost (f : HostPort → HostPort) (s : State) : Aside s (updHost f s) :=
  aside_of_same rfl

theorem aside_setResult (r : CmdResult) (s : State) : Aside s (setResult r s) := aside_updHost _ s

theorem aside_updEvents (f : EventUnit → EventUnit) (s : State) : Aside s (updEvents f s) :=
  aside_of_same rfl

theorem aside_updStaging (f : Staging → Staging) (s : State) : Aside s (updStaging f s) :=
  aside_of_same rfl

theorem aside_updLink {f : Link → Link} {s : State} (h : LinkAside s.link.state (f s.link).state) :
    Aside s (updLink f s) :=
  ⟨rfl, rfl, rfl, rfl, rfl, fun _ => .refl _, h⟩

theorem aside_updSend (f : SendSide → SendSide) (s : State) : Aside s (updSend f s) := aside_updLink (.inl rfl)

theorem aside_updRecv (f : ReceiveSide → ReceiveSide) (s : State) : Aside s (updRecv f s) := aside_updLink (.inl rfl)

theorem aside_attnQueue (q : List AttnRecord) (s : State) : Aside s { s with attnQueue := q } :=
  aside_of_same rfl

theorem aside_lastTag (t : Tag) (s : State) : Aside s { s with lastTag := t } := aside_of_same rfl

theorem aside_protocolError (s : State) : Aside s (protocolError s) := aside_updEvents _ s

theorem aside_transmit (bytes : List Byte) (s : State) : Aside s (transmit bytes s) := aside_updLink (.inl rfl)

theorem aside_sendMessage (body : List Word) (s : State) : Aside s (sendMessage body s) :=
  (aside_updSend _ s).trans (aside_transmit _ _)

theorem aside_reportPosted (t : Tag) (reason : PostedReason) (s : State) : Aside s (reportPosted t reason s) :=
  aside_of_same rfl

theorem aside_changeState {target : LinkState} {s : State} (h : LinkAside s.link.state target) :
    Aside s (changeState target s) :=
  ⟨rfl, rfl, rfl, rfl, rfl, fun _ => .refl _, h⟩

theorem aside_updUnit {u : UnitNo} {f : UnitRecord → UnitRecord} {s : State} (h : UnitAside (s.unit u) (f (s.unit u))) :
    Aside s (updUnit u f s) :=
  ⟨rfl, rfl, rfl, rfl, rfl, fun v => by
    rw [unit_updUnit]
    split
    · next e => exact e ▸ h
    · exact .refl _, .inl rfl⟩

theorem aside_settlePop (s : State) : Aside s (settlePop s) := by
  unfold settlePop
  split
  · exact aside_updEvents _ s
  · exact .refl s

theorem aside_dropSelection (t : Tag) (s : State) : Aside s (dropSelection t s) := by
  unfold dropSelection
  split
  · exact aside_updHost _ s
  · exact .refl s

/-! ## Events of the tag table -/

/-- What the data of a reply, or CANCEL, writes into a live tag before it goes on: its slot, its words received, cancel
requested, and words in its own chunks. -/
structure Touches (t : Tag) (s s' : State) : Prop where
  own : s'.tag t = { s.tag t with
    slot := (s'.tag t).slot, wordsReceived := (s'.tag t).wordsReceived, cancelRequested := (s'.tag t).cancelRequested }
  others : ∀ x, x ≠ t → s'.tag x = s.tag x
  received : (s.tag t).wordsReceived ≤ (s.tag t).length → (s'.tag t).wordsReceived ≤ (s.tag t).length
  chunks : ∀ c, c ∉ (s.tag t).chunkList → s'.store.chunks.get c = s.store.chunks.get c
  free : s'.store.free = s.store.free
  frame : s' = { s with tags := s'.tags, store := s'.store }

/-- When a live tag may meet a fate: a tag that is not posted completes, owing its final reply only where it was sent; a
posted one that was sent becomes FREE or ORPHANED (R7, R14). -/
def Fate.Fits : Fate → TagRecord → Prop
  | .complete e, r =>
    r.posted = false ∧ (e.owed = true → r.state.inFlight = true)
      ∧ (r.wordsReceived ≤ r.length → e.delivered ≤ r.length)
  | .free, r | .orphan, r => r.posted = true ∧ r.state.inFlight = true

/-- The credit that returns with a fate: where a final reply was owed and is owed no more (R67). -/
def creditFor (f : Fate) (t : Tag) (s : State) : State :=
  if (s.tag t).owed && !(f.record (s.tag t)).owed then returnCredit (s.tag t).unit s else s

/-- A new tag's chunks, record and payload, before it takes its place in the lists (R3, R31, R32, R38). -/
def fillTag (t : Tag) (k : Kind) (s : State) : State :=
  let chunks := (freeChunks s.store).take (k.chunksReserved s.staging.length.toNat)
  updTag t (fun _ => stagedRecord k chunks s.staging) (updStore (reserveStore k chunks s.staging.payload) s)

theorem acceptSubmit_eq (t : Tag) (k : Kind) (s : State) :
    acceptSubmit t k s
      = updStaging (fun g => { g with payload := [] }) { placeTag t k (fillTag t k s) with lastTag := t } := rfl

/-- What the take of a tag's REQUEST does to the tag, its unit and the dispatch queue (R4, R52). -/
def sendRequest (t : Tag) (s : State) : State :=
  let s1 := updUnit (s.tag t).unit (fun v => { v with outstanding := v.outstanding + 1 })
    (updTag t (fun r =>
      { r with
        state := if r.posted then .posted else .sent
        timer := startedReplyTimer (s.unit r.unit).replyTimeout }) s)
  { s1 with dispatchQueue := s1.dispatchQueue.filter (fun x => x ≠ t) }

/-- What the take of the CANCEL at the head of the owed-cancel list does to its tag and the list (R6, R74). -/
def sendCancel (t : Tag) (rest : List Tag) (s : State) : State :=
  updTag t (fun r => { r with
    cancelPending := false, timer := startedCancelTimer (s.unit (s.tag t).unit).replyTimeout })
    { s with owedCancels := rest }

/-- An accepted segment's effect on its tag's state and timer, its data placed (R5, R70, R75). -/
def segmentRecord (timeout : Halfword) (r : TagRecord) : TagRecord :=
  { r with state := if r.state = .sent then .receiving else r.state, timer := r.timer.restart timeout }

/-- The part after a reset, as the tag table and the unit directory see it: every tag FREE, every list empty, every unit
ABSENT, the link DOWN (R147, R148). -/
structure WasReset (s' : State) : Prop where
  tag : ∀ x, s'.tag x = {}
  results : s'.results = []
  store : s'.store = {}
  dispatchQueue : s'.dispatchQueue = []
  owedCancels : s'.owedCancels = []
  units : ∀ v, s'.unit v = { replyTimeout := (s'.unit v).replyTimeout, masked := (s'.unit v).masked }
  link : s'.link.state = .down

/-- The events of the tag table, the unit directory and the link, one constructor for each kind. -/
inductive TagEvent (c : Instr) : State → State → Prop
  | still (s : State) : TagEvent c s s
  | submitted {s : State} {k : Kind} {t : Tag} (check : submitCheck s = .done)
      (kind : kindOfCode s.staging.kindCode = some k) (lowest : lowestFreeTag s = some t) :
      TagEvent c s (placeTag t k (fillTag t k s))
  | popped {s : State} {r : CompletionRecord} {rest : List CompletionRecord} (queue : s.results = r :: rest)
      (command : (∃ operand, c = .popResult operand) ∨ c.wellFormed = false) :
      TagEvent c s (updTag r.tag (fun r => { r with popped := true }) { s with results := rest })
  | released {s : State} {t : Tag} (complete : (s.tag t).state = .complete) (popped : (s.tag t).popped = true) :
      TagEvent c s ((if (s.tag t).farReplyPending then Fate.orphan else .free).act t s)
  | touched {s s' : State} {t : Tag} (live : (s.tag t).state.inOrderList = true) (touch : Touches t s s') :
      TagEvent c s s'
  | segment {s s' : State} {t : Tag} (state : (s.tag t).state.inFlight = true) (posted : (s.tag t).posted = false)
      (touch : Touches t s s') :
      TagEvent c s (updTag t (segmentRecord (s.unit (s.tag t).unit).replyTimeout) s')
  | cancelling {s : State} {t : Tag} (cause : CancelCause)
      (state : (s.tag t).state = .sent ∨ (s.tag t).state = .receiving ∨ (s.tag t).state = .posted) :
      TagEvent c s (enterCancelling cause t s)
  | departed {s s' : State} {t : Tag} {f : Fate} (live : (s.tag t).state.inOrderList = true) (touch : Touches t s s')
      (fits : f.Fits (s'.tag t)) :
      TagEvent c s (f.depart t (creditFor f t s'))
  | freed {s : State} {t : Tag} (orphaned : (s.tag t).state = .orphaned) :
      TagEvent c s (Fate.free.act t (returnCredit (s.tag t).unit s))
  | paid {s : State} {t : Tag} (complete : (s.tag t).state = .complete) (owed : (s.tag t).farReplyPending = true) :
      TagEvent c s (updTag t (fun r => { r with farReplyPending := false }) (returnCredit (s.tag t).unit s))
  | requested {s : State} {t : Tag} (choice : dispatchChoice s = some t) : TagEvent c s (sendRequest t s)
  | cancelSent {s : State} {t : Tag} {rest : List Tag} (head : s.owedCancels = t :: rest) :
      TagEvent c s (sendCancel t rest s)
  | reported {s : State} {u : UnitNo} {spaces : BitVec 4} {classCode : Halfword} {limit maxBlock : Byte}
      (session : InSession s) (accepted : reportAccepted u limit maxBlock s = true) :
      TagEvent c s (updUnit u (reportedUnit spaces classCode limit maxBlock) s)
  | unitGone {s : State} {u : UnitNo} (present : (s.unit u).present = true) :
      TagEvent c s (updUnit u (fun r => { absentUnit r with held := none }) (settleUnitTags u s))
  | linkLost {s : State} (reason : LossReason) : TagEvent c s (linkLoss reason s)
  | reset {s s' : State} (command : isReset c = true ∨ c.wellFormed = false) (after : WasReset s') : TagEvent c s s'

theorem inOrderList_of_inFlight {p : TagState} (h : p.inFlight = true) : p.inOrderList = true := by
  cases p <;> simp_all [TagState.inFlight, TagState.inOrderList]

/-- What a command does: asides, at most one event of the tag table, asides. -/
def Happens (c : Instr) (s t : State) : Prop := ∃ a b, Aside s a ∧ TagEvent c a b ∧ Aside b t

theorem TagEvent.happens {c : Instr} {s t : State} (h : TagEvent c s t) : Happens c s t := ⟨s, t, .refl s, h, .refl t⟩

theorem Aside.happens {s t : State} (h : Aside s t) (c : Instr) : Happens c s t := ⟨s, s, .refl s, .still s, h⟩

theorem happens_of_same (c : Instr) {s s' : State}
    (h : (s'.tags, s'.results, s'.store, s'.dispatchQueue, s'.owedCancels, s'.units, s'.link.state)
      = (s.tags, s.results, s.store, s.dispatchQueue, s.owedCancels, s.units, s.link.state)) : Happens c s s' :=
  (aside_of_same h).happens c

theorem Happens.then {c : Instr} {s a t : State} (h : Happens c s a) (h' : Aside a t) : Happens c s t := by
  obtain ⟨x, y, hx, hy, hz⟩ := h
  exact ⟨x, y, hx, hy, hz.trans h'⟩

theorem Happens.after {c : Instr} {s a t : State} (h' : Aside s a) (h : Happens c a t) : Happens c s t := by
  obtain ⟨x, y, hx, hy, hz⟩ := h
  exact ⟨x, y, h'.trans hx, hy, hz⟩

theorem happens_ite {c : Instr} {p : Prop} [Decidable p] {s a b : State} (ha : Happens c s a) (hb : Happens c s b) :
    Happens c s (if p then a else b) := by
  split
  · exact ha
  · exact hb

/-- An event happens as its effect does. -/
theorem takeEvent_happens {c : Instr} {effect : State → State} {s t : State} (h : takeEvent effect s = .next t)
    (he : Happens c s (effect s)) : Happens c s t := by
  obtain ⟨-, rfl⟩ | ⟨-, rfl⟩ := takeEvent_cases h
  · exact (Aside.refl _).happens c
  · exact he.then (aside_of_same rfl)

theorem takeRead_happens {c : Instr} {effect : State → State} {s t : State} (h : takeRead effect s = .next t)
    (he : Happens c s (effect s)) : Happens c s t := by
  cases hr : s.resetAsserted with
  | true =>
    rw [takeRead_of_asserted hr] at h
    cases h
    exact happens_of_same c rfl
  | false =>
    rw [takeRead_of_released hr] at h
    exact takeEvent_happens h he

theorem takeRead_answers (effect : State → State) (s : State) : ∃ t, takeRead effect s = .next t := by
  unfold takeRead
  split <;> exact ⟨_, rfl⟩

/-! ## Host commands -/

section
variable (c : Instr)

theorem cmdSubmit_happens (operand : Byte) (s : State) : Happens c s (cmdSubmit operand s) := by
  unfold cmdSubmit
  split
  · next k t check kind lowest =>
    have h := TagEvent.happens (.submitted (c := c) check kind lowest)
    rw [acceptSubmit_eq]
    exact h.then ((aside_lastTag t _).trans ((aside_updStaging _ _).trans (aside_setResult _ _)))
  · exact (aside_setResult _ s).happens c

/-- A command on the tag that its operand names, or its refusal. -/
theorem onTag_happens {command : Tag → State → State} {s : State} (h : ∀ t, Happens c s (command t s)) (operand : Byte) :
    Happens c s (onTag operand command s) := by
  unfold onTag
  split
  · exact (aside_setResult _ s).happens c
  · exact h _

theorem touches_cancelRequested (t : Tag) (s : State) :
    Touches t s (updTag t (fun r => { r with cancelRequested := true }) s) where
  own := by simp
  others x hx := tag_updTag_of_ne hx _ s
  received h := by simpa using h
  chunks _ _ := rfl
  free := rfl
  frame := rfl

theorem cancelTag_happens (t : Tag) (s : State) : Happens c s (cancelTag t s) := by
  have refused : Happens c s (setResult .wrongState s) := (aside_setResult _ s).happens c
  have cancelled (hl : (s.tag t).state.inOrderList = true) (ho : (s.tag t).owed = false) (hp : (s.tag t).posted = false) :
      Happens c s (setResult .done (completeAndRelease t ⟨.cancelled, none, .no, 0, false⟩
        (updTag t (fun r => { r with cancelRequested := true }) s))) := by
    have h := TagEvent.departed (c := c) (f := .complete ⟨.cancelled, none, .no, 0, false⟩) hl
      (touches_cancelRequested t s) (by simp [Fate.Fits, hp])
    have hc : creditFor (.complete ⟨.cancelled, none, .no, 0, false⟩) t
        (updTag t (fun r => { r with cancelRequested := true }) s) = updTag t (fun r => { r with cancelRequested := true }) s := by
      have ho' : ((updTag t (fun r => { r with cancelRequested := true }) s).tag t).owed = false := by
        rw [tag_updTag_self]
        exact ho
      rw [creditFor, ho', Bool.false_and, if_neg Bool.false_ne_true]
    rw [hc] at h
    exact h.happens.then (aside_setResult _ _)
  unfold cancelTag
  split
  · exact refused
  next hp =>
  have hp : (s.tag t).posted = false := by simpa using hp
  cases hs : (s.tag t).state <;> simp only
  case queued => exact cancelled (by rw [hs]; rfl) (by simp [TagRecord.owed, hs]) hp
  case waiting => exact cancelled (by rw [hs]; rfl) (by simp [TagRecord.owed, hs]) hp
  case sent => exact (TagEvent.cancelling .host (.inl hs)).happens.then (aside_setResult _ _)
  case receiving => exact (TagEvent.cancelling .host (.inr (.inl hs))).happens.then (aside_setResult _ _)
  case cancelling =>
    exact (TagEvent.touched (by rw [hs]; rfl) (touches_cancelRequested t s)).happens.then (aside_setResult _ _)
  all_goals exact refused

theorem cmdPopResult_happens (hc : (∃ operand, c = .popResult operand) ∨ c.wellFormed = false) (operand : Byte)
    (s : State) : Happens c s (cmdPopResult operand s) := by
  unfold cmdPopResult
  split
  · exact ((aside_updHost _ s).trans (aside_setResult _ _)).happens c
  · next r rest h =>
    refine (TagEvent.popped h hc).happens.then (.trans ?_ ((aside_settlePop _).trans (aside_setResult _ _)))
    exact aside_of_same rfl

theorem releaseTag_happens (t : Tag) (s : State) : Happens c s (releaseTag t s) := by
  unfold releaseTag
  split
  next hs =>
    split
    · next hp =>
      have h := TagEvent.released (c := c) hs hp
      have e : (if (s.tag t).farReplyPending then Fate.orphan else .free).act t s
          = if (s.tag t).farReplyPending then orphanTag t s else freeTag t s := by
        split <;> rfl
      rw [e] at h
      exact h.happens.then ((aside_dropSelection _ _).trans (aside_setResult _ _))
    · exact (aside_setResult _ s).happens c
  · exact (aside_setResult _ s).happens c

theorem selectTag_aside (t : Tag) (s : State) : Aside s (selectTag t s) := by
  unfold selectTag
  split
  · exact (aside_updHost _ s).trans (aside_setResult _ _)
  · exact aside_setResult _ s

theorem oweAttentionAck_aside (r : AttnRecord) (s : State) : Aside s (oweAttentionAck r s) := by
  unfold oweAttentionAck
  split
  · next h => exact aside_updUnit ⟨rfl, .inr (.inr h.2)⟩
  · exact .refl s

theorem cmdPopAttention_aside (operand : Byte) (s : State) : Aside s (cmdPopAttention operand s) := by
  unfold cmdPopAttention
  split
  · exact (aside_updHost _ s).trans (aside_setResult _ _)
  · next r rest h =>
    refine .trans ?_ ((oweAttentionAck_aside _ _).trans (aside_setResult _ _))
    exact aside_of_same rfl

theorem cmdClearStaging_aside (operand : Byte) (s : State) : Aside s (cmdClearStaging operand s) :=
  (aside_updStaging _ s).trans ((aside_updHost _ _).trans (aside_setResult _ _))

theorem cmdClearPosted_aside (operand : Byte) (s : State) : Aside s (cmdClearPosted operand s) :=
  aside_of_same rfl

/-! ## The link -/

theorem enterTraining_aside {s : State} (h : s.link.state = .down ∨ s.link.state = .faulted) :
    Aside s (enterTraining s) := by
  refine (aside_updLink (.inl rfl)).trans (aside_changeState (.inr ?_))
  obtain h | h := h <;> simp [h]

theorem cmdLinkStart_aside (operand : Byte) (s : State) : Aside s (cmdLinkStart operand s) := by
  unfold cmdLinkStart
  split
  · next h => exact (enterTraining_aside (.inl h)).trans (aside_setResult _ _)
  · next h => exact (enterTraining_aside (.inr h)).trans (aside_setResult _ _)
  all_goals exact aside_setResult _ s

theorem cmdLinkStop_happens (operand : Byte) (s : State) : Happens c s (cmdLinkStop operand s) := by
  unfold cmdLinkStop
  split
  · exact (TagEvent.linkLost .hostStop).happens.then (aside_setResult _ _)
  · exact (TagEvent.linkLost .hostStop).happens.then (aside_setResult _ _)
  · next h =>
    refine Aside.happens (.trans (aside_updLink (.inl rfl)) (.trans (aside_changeState (.inr ?_)) (aside_setResult _ _))) c
    simp [h]
  · next h =>
    refine Aside.happens (.trans (aside_updLink (.inl rfl)) (.trans (aside_changeState (.inr ?_)) (aside_setResult _ _))) c
    simp [h]
  · exact (aside_setResult _ s).happens c

theorem loseEstablished_happens (reason : LossReason) (s : State) : Happens c s (loseEstablished reason s) := by
  by_cases h : InSession s
  · rw [loseEstablished_of_session h]
    exact (TagEvent.linkLost reason).happens
  · rw [loseEstablished_of_not h]
    exact (Aside.refl s).happens c

theorem demandPass_happens (s : State) : Happens c s (demandPass s) := by
  unfold demandPass
  split
  · exact ((aside_updSend _ s).trans (aside_updLink (.inl rfl))).happens c
  · exact loseEstablished_happens c _ s

theorem takeAck_aside (n : SeqNo) (s : State) : Aside s (takeAck n s) := by
  unfold takeAck
  split
  · exact aside_updSend _ s
  · exact aside_protocolError s

theorem takeNak_happens (n : SeqNo) (s : State) : Happens c s (takeNak n s) := by
  unfold takeNak
  split
  · refine Happens.after (aside_updSend (SendSide.acknowledge (replaySetting s) n) s) ?_
    simp only
    split
    · exact (Aside.refl _).happens c
    split
    · exact (aside_updSend _ _).happens c
    · exact demandPass_happens c _
  · exact (aside_protocolError s).happens c

theorem endTrainingInterval_aside (s : State) : Aside s (endTrainingInterval s) := by
  unfold endTrainingInterval
  split
  · exact .refl s
  refine .trans (aside_updLink (f := fun l => { l with trainingInterval := none }) (.inl rfl)) ?_
  simp only
  split
  · next h =>
    split
    · exact aside_updLink (.inl rfl)
    · refine .trans (aside_updLink (.inl rfl)) (aside_changeState (.inr ?_))
      simp [h]
  · exact .refl _

theorem expireDiscoveryTimer_happens (s : State) : Happens c s (expireDiscoveryTimer s) := by
  unfold expireDiscoveryTimer
  split
  · exact (Aside.refl s).happens c
  refine Happens.after (aside_updLink (f := fun l => { l with discoveryTimer := none }) (.inl rfl)) ?_
  simp only
  split
  · exact (TagEvent.linkLost _).happens
  · exact (Aside.refl _).happens c

theorem expireReplayTimer_happens (s : State) : Happens c s (expireReplayTimer s) := by
  unfold expireReplayTimer
  split
  · exact (Aside.refl s).happens c
  · exact Happens.after (aside_updSend _ s) (demandPass_happens c _)

theorem expireAckDelay_aside (s : State) : Aside s (expireAckDelay s) := by
  unfold expireAckDelay
  split
  · exact .refl s
  · exact aside_updRecv _ s

theorem expireRestartTimer_aside (s : State) : Aside s (expireRestartTimer s) := by
  unfold expireRestartTimer
  split
  · exact .refl s
  refine .trans (aside_updLink (f := fun l => { l with restartTimer := none }) (.inl rfl)) ?_
  simp only
  split
  · next h => exact enterTraining_aside (.inr h)
  · exact .refl _

/-! ## The other writes and reads of the host -/

theorem writeStgDataL_aside (value : Halfword) (s : State) : Aside s (writeStgDataL value s) := by
  unfold writeStgDataL
  split
  · exact aside_updStaging _ s
  · exact aside_updEvents _ s

theorem readRdDataH_aside (s : State) : Aside s (readRdDataH s) := by
  unfold readRdDataH
  split
  · exact aside_updHost _ s
  · exact (aside_updHost _ s).trans (aside_updEvents _ _)

theorem readRdDataL_aside (s : State) : Aside s (readRdDataL s) := by
  unfold readRdDataL
  split
  · exact aside_updHost _ s
  · exact (aside_updHost _ s).trans (aside_updEvents _ _)

theorem releaseHeld_aside (u : UnitNo) (s : State) : Aside s (releaseHeld u s) := by
  unfold releaseHeld
  split
  · exact .refl s
  · exact .trans (aside_attnQueue _ s) (aside_updUnit ⟨rfl, .inr (.inl rfl)⟩)

theorem writeUnitMask_aside (value : Halfword) (s : State) : Aside s (writeUnitMask value s) := by
  unfold writeUnitMask
  refine Aside.trans ?_ (aside_updUnit ⟨rfl, .inr (.inl rfl)⟩)
  split
  · exact releaseHeld_aside _ s
  · exact .refl s

theorem clearLinkCounter_aside (counter : LinkCounter) (s : State) : Aside s (clearLinkCounter counter s) := by
  cases counter <;> exact aside_of_same rfl

theorem holdoffExpiry_aside (s : State) : Aside s (holdoffExpiry s) := by
  unfold holdoffExpiry
  split
  · exact .refl s
  · exact aside_updEvents _ s

theorem accessUnused_aside (a : Access) (s : State) : Aside s (accessUnused a s) := by
  cases a <;> exact aside_of_same rfl

theorem wasReset_resetN {waiting : List Instr} :
    WasReset { State.reset with pending := waiting, resetAsserted := true } where
  tag := tag_reset
  results := rfl
  store := rfl
  dispatchQueue := rfl
  owedCancels := rfl
  units v := by
    rw [show State.unit { State.reset with pending := waiting, resetAsserted := true } v = {} from unit_reset v]
  link := rfl

theorem wasReset_cmdSoftReset (operand : Byte) (s : State) : WasReset (cmdSoftReset operand s) where
  tag := tag_reset
  results := rfl
  store := rfl
  dispatchQueue := rfl
  owedCancels := rfl
  units v := by
    have h : (cmdSoftReset operand s).unit v = softResetUnit (s.unit v) := get_mapTable softResetUnit s.units v
    rw [h]
    rfl
  link := rfl

/-- A write to CMD: the command of its code. Only an ill-formed row brings a code of its own to this decoder. -/
theorem issueCommand_happens {code : Byte} (hc : c.wellFormed = false ∨ code ∉ definedCommandCodes) (operand : Byte)
    (s : State) : Happens c s (issueCommand code operand s) := by
  obtain hc | hc := hc
  · exact happens_ite (cmdSubmit_happens c operand s) <|
      happens_ite (onTag_happens c (fun t => cancelTag_happens c t s) operand) <|
      happens_ite (cmdPopResult_happens c (.inr hc) operand s) <|
      happens_ite (onTag_happens c (fun t => releaseTag_happens c t s) operand) <|
      happens_ite (onTag_happens c (fun t => (selectTag_aside t s).happens c) operand) <|
      happens_ite ((cmdPopAttention_aside operand s).happens c) <|
      happens_ite ((cmdClearStaging_aside operand s).happens c) <|
      happens_ite ((cmdClearPosted_aside operand s).happens c) <|
      happens_ite ((cmdLinkStart_aside operand s).happens c) <|
      happens_ite (cmdLinkStop_happens c operand s) <|
      happens_ite (TagEvent.reset (.inr hc) (wasReset_cmdSoftReset operand s)).happens <|
      (aside_setResult _ s).happens c
  · simp only [definedCommandCodes, List.mem_cons, List.not_mem_nil, or_false, not_or] at hc
    obtain ⟨h1, h2, h3, h4, h5, h6, h7, h8, h9, h10, h15⟩ := hc
    rw [issueCommand, if_neg h1, if_neg h2, if_neg h3, if_neg h4, if_neg h5, if_neg h6, if_neg h7, if_neg h8, if_neg h9,
      if_neg h10, if_neg h15]
    exact (aside_setResult _ s).happens c

/-- A write to a register. Only an ill-formed row brings one with a row of its own. -/
theorem writeRegister_happens {r : Reg} (hc : c.wellFormed = false ∨ r.writeHasOwnRow = false) (value : Halfword)
    (s : State) : Happens c s (writeRegister r value s) := by
  cases r
  case cmd =>
    obtain hc | hc := hc
    · exact issueCommand_happens c (.inl hc) _ s
    · cases hc
  case stgDataL => exact (writeStgDataL_aside value s).happens c
  case unitTimeout =>
    exact (aside_updUnit (f := fun r => { r with replyTimeout := value }) ⟨rfl, .inr (.inl rfl)⟩).happens c
  case unitMask => exact (writeUnitMask_aside value s).happens c
  all_goals exact happens_of_same c rfl

end

/-! ## Takes of the transmitter -/

section
variable (c : Instr)

theorem takeItem_happens {item : TxItem} {effect : State → State} {s : State} (h : Happens c s (effect s)) :
    Happens c s (takeItem item effect s) := by
  unfold takeItem
  split
  · exact h
  · exact (Aside.refl s).happens c

theorem takeReplayItem_aside (s : State) : Aside s (takeReplayItem s) := by
  unfold takeReplayItem
  split
  · exact aside_of_same rfl
  · exact .refl s

theorem takeAttentionAckItem_aside (s : State) : Aside s (takeAttentionAckItem s) := by
  unfold takeAttentionAckItem
  split
  · exact (aside_updUnit ⟨rfl, .inl rfl⟩).trans (aside_sendMessage _ _)
  · exact .refl s

theorem takeCancelItem_happens (s : State) : Happens c s (takeCancelItem s) := by
  unfold takeCancelItem
  split
  · exact (Aside.refl s).happens c
  · next t rest h => exact (TagEvent.cancelSent h).happens.then (aside_sendMessage _ _)

theorem takeRequestItem_happens (s : State) : Happens c s (takeRequestItem s) := by
  unfold takeRequestItem
  split
  · exact (Aside.refl s).happens c
  · next t h => exact (TagEvent.requested h).happens.then (aside_sendMessage _ _)

/-! ## Replies and the timers of a tag -/

/-- A live tag meets a fate that returns the credit. -/
theorem departed_credited {s s' : State} {t : Tag} {f : Fate} (flight : (s.tag t).state.inFlight = true)
    (touch : Touches t s s') (fits : f.Fits (s'.tag t)) (paid : (f.record (s'.tag t)).owed = false) :
    TagEvent c s (f.depart t (returnCredit (s'.tag t).unit s')) := by
  have owed : (s'.tag t).owed = true := by
    rw [touch.own]
    cases h : (s.tag t).state <;> simp_all [TagState.inFlight, TagRecord.owed]
  have h := TagEvent.departed (c := c) (inOrderList_of_inFlight flight) touch fits
  rwa [creditFor, owed, paid, Bool.not_false, Bool.and_self, if_pos rfl] at h

/-- A live tag meets a fate that returns no credit, the far end owing its reply still. -/
theorem departed_owing {s s' : State} {t : Tag} {f : Fate} (live : (s.tag t).state.inOrderList = true)
    (touch : Touches t s s') (fits : f.Fits (s'.tag t)) (owing : (f.record (s'.tag t)).owed = true) :
    TagEvent c s (f.depart t s') := by
  have h := TagEvent.departed (c := c) live touch fits
  rwa [creditFor, owing, Bool.not_true, Bool.and_false, if_neg Bool.false_ne_true] at h

theorem Touches.refl (t : Tag) (s : State) : Touches t s s := ⟨rfl, fun _ _ => rfl, id, fun _ _ => rfl, rfl, rfl⟩

theorem free_writePlaces (cs : List ChunkNo) (n : Nat) (words : List Word) (b : BufferStore) :
    (writePlaces cs n words b).free = b.free := by
  induction words generalizing n b with
  | nil => rfl
  | cons w ws ih => rw [writePlaces_cons, ih, free_writePlace]

theorem chunks_writePlaces_of_not_mem {cs : List ChunkNo} {k : ChunkNo} (h : k ∉ cs) (n : Nat) (words : List Word)
    (b : BufferStore) : (writePlaces cs n words b).chunks.get k = b.chunks.get k := by
  induction words generalizing n b with
  | nil => rfl
  | cons w ws ih => rw [writePlaces_cons, ih, chunks_writePlace_of_not_mem h]

theorem touches_placeData {t : Tag} {offset count : Nat} (words : List Word) {s : State}
    (h : (s.tag t).wordsReceived + count ≤ (s.tag t).length) : Touches t s (placeData t offset count words s) := by
  cases hk : (s.tag t).kind.isBlock with
  | true =>
    rw [placeData_of_block hk]
    refine ⟨by rw [tag_updTag_self]; rfl, fun x hx => tag_updTag_of_ne hx _ _, fun _ => by rwa [tag_updTag_self], ?_, ?_, rfl⟩
    · intro k hk
      exact chunks_writePlaces_of_not_mem hk _ _ _
    · exact free_writePlaces _ _ _ _
  | false =>
    rw [placeData_of_slot hk]
    exact ⟨by rw [tag_updTag_self], fun x hx => tag_updTag_of_ne hx _ _, fun _ => by rwa [tag_updTag_self], fun _ _ => rfl, rfl, rfl⟩

/-- The tag after its reply's data was placed. -/
theorem touches_placeReply {t : Tag} {b : ReplyBody} {s : State} (h : passesChecks (s.tag t) b = true) :
    Touches t s (placeReply t b s) := by
  cases b with
  | data final short offset count words =>
    refine touches_placeData words ?_
    simp only [passesChecks, Bool.and_eq_true, decide_eq_true_eq] at h
    obtain ⟨⟨⟨-, ho⟩, hl⟩, -⟩ := h
    omega
  | done => exact .refl t s
  | refuse reason => exact .refl t s

/-- The ending of an accepted final reply: no reply is owed after it, and the words it delivers are none, all or those
received. -/
theorem finalEnding_bounds (r : TagRecord) (b : ReplyBody) :
    (finalEnding r b).owed = false ∧ (r.wordsReceived ≤ r.length → (finalEnding r b).delivered ≤ r.length) := by
  have plain : (replyEnding r b).owed = false ∧ (r.wordsReceived ≤ r.length → (replyEnding r b).delivered ≤ r.length) := by
    cases b with
    | data final short offset count words => cases short <;> simp [replyEnding]
    | done => simp [replyEnding]
    | refuse reason => simp [replyEnding]
  unfold finalEnding
  split
  case h_4 => exact plain
  all_goals simp

theorem acceptFinal_happens {t : Tag} {b : ReplyBody} {s : State} (hf : (s.tag t).state.inFlight = true)
    (hp : (s.tag t).posted = false) (hb : passesChecks (s.tag t) b = true) : Happens c s (acceptFinal t b s) := by
  have touch := touches_placeReply hb
  have hu : (s.tag t).unit = ((placeReply t b s).tag t).unit := by rw [touch.own]
  have e : finalEnding ((returnCredit (s.tag t).unit (placeReply t b s)).tag t) b
      = finalEnding ((placeReply t b s).tag t) b := rfl
  unfold acceptFinal
  simp only [e]
  obtain ⟨owed, delivered⟩ := finalEnding_bounds ((placeReply t b s).tag t) b
  have fits : (Fate.complete (finalEnding ((placeReply t b s).tag t) b)).Fits ((placeReply t b s).tag t) :=
    ⟨by rw [touch.own]; exact hp, by simp [owed], delivered⟩
  rw [hu, completeAndRelease_eq]
  exact (departed_credited c hf touch fits owed).happens

theorem acceptSegment_happens {t : Tag} {short : Bool} {offset count : Nat} {words : List Word} {s : State}
    (hf : (s.tag t).state.inFlight = true) (hp : (s.tag t).posted = false)
    (hb : passesChecks (s.tag t) (.data false short offset count words) = true) :
    Happens c s (acceptSegment t offset count words s) := by
  have touch : Touches t s (placeData t offset count words s) := touches_placeReply hb
  have h := TagEvent.segment (c := c) hf hp touch
  have e : updTag t (segmentRecord (s.unit (s.tag t).unit).replyTimeout) (placeData t offset count words s)
      = acceptSegment t offset count words s := by
    apply updTag_congr
    rw [touch.own]
    rfl
  exact (e ▸ h).happens

theorem acceptPosted_happens {t : Tag} {b : ReplyBody} {s : State} (hf : (s.tag t).state.inFlight = true)
    (hp : (s.tag t).posted = true) : Happens c s (acceptPosted t b s) := by
  have ha : Aside s (postedReport t b s) := by
    unfold postedReport
    split
    · split <;> exact aside_reportPosted _ _ s
    · exact .refl s
    · exact .refl s
  unfold acceptPosted
  refine Happens.after ha (TagEvent.happens ?_)
  rw [freeAndRelease_eq, ← ha.tag]
  exact departed_credited c (by rwa [ha.tag]) (.refl t _) ⟨by rwa [ha.tag], by rwa [ha.tag]⟩ rfl

theorem violateReply_happens {t : Tag} {b : ReplyBody} {s : State} (hf : (s.tag t).state.inFlight = true) :
    Happens c s (violateReply t b s) := by
  unfold violateReply
  refine Happens.then ?_ (aside_protocolError _)
  split
  · next hp =>
    have ha := aside_reportPosted t .protocol s
    have fits : ((reportPosted t .protocol s).tag t).posted = true
        ∧ ((reportPosted t .protocol s).tag t).state.inFlight = true := by
      rw [ha.tag]
      exact ⟨hp, hf⟩
    have hf' : ((reportPosted t .protocol s).tag t).state.inFlight = true := by rwa [ha.tag]
    unfold violatePosted
    refine Happens.after ha (TagEvent.happens ?_)
    cases b.isFinal with
    | true => exact departed_credited (f := .free) c hf' (.refl t _) fits rfl
    | false => exact departed_owing (f := .orphan) c (inOrderList_of_inFlight hf') (.refl t _) fits rfl
  · next hp =>
    have hp : (s.tag t).posted = false := by simpa using hp
    have fits : (Fate.complete ⟨.protocol, none, .unknown, 0, !b.isFinal⟩).Fits (s.tag t) := ⟨hp, fun _ => hf, by simp⟩
    unfold violateNonPosted
    rw [completeAndRelease_eq]
    revert fits
    cases b.isFinal with
    | true => exact fun fits => (departed_credited c hf (.refl t s) fits rfl).happens
    | false => exact fun fits => (departed_owing c (inOrderList_of_inFlight hf) (.refl t s) fits rfl).happens

theorem takeMatched_happens {t : Tag} {u : UnitNo} (b : ReplyBody) {s : State} (hm : Matched t u s) :
    Happens c s (takeMatched t b s) := by
  obtain ⟨-, -, hm⟩ := hm
  unfold takeMatched
  split
  · split
    · unfold lateFinal
      split
      · next h => exact (TagEvent.freed h).happens
      · next h =>
        have hc : (s.tag t).state = .complete ∧ (s.tag t).farReplyPending = true := by simp_all
        exact (TagEvent.paid hc.1 hc.2).happens
    · exact (Aside.refl s).happens c
  next h =>
  have hf : (s.tag t).state.inFlight = true := by
    obtain h' | h' | h' | h' | ⟨h', -⟩ | h' := hm
    case inr.inr.inr.inr.inl => exact absurd (.inr h') h
    case inr.inr.inr.inr.inr => exact absurd (.inl h') h
    all_goals
      rw [h']
      rfl
  split
  · next hb =>
    unfold acceptReply
    split
    · next hp => exact acceptPosted_happens c hf hp
    next hp =>
    have hp : (s.tag t).posted = false := by simpa using hp
    split
    · exact acceptSegment_happens c hf hp hb
    · exact acceptFinal_happens c hf hp hb
  · exact violateReply_happens c hf

theorem takeReply_happens (t : Tag) (u : UnitNo) (b : Option ReplyBody) (s : State) : Happens c s (takeReply t u b s) := by
  unfold takeReply
  split
  · exact (aside_protocolError s).happens c
  · split
    · next h => exact takeMatched_happens c _ ((matched_iff t u s).mp h)
    · exact (aside_protocolError s).happens c

theorem expireReplyTimerOf_happens (t : Tag) (s : State) : Happens c s (expireReplyTimerOf t s) := by
  unfold expireReplyTimerOf
  split
  · next h => exact (TagEvent.cancelling .timeout (.inl h)).happens
  · next h => exact (TagEvent.cancelling .timeout (.inr (.inl h))).happens
  · next h => exact (TagEvent.cancelling .timeout (.inr (.inr h))).happens
  · exact (Aside.refl s).happens c

theorem expireCancelTimerOf_happens (t : Tag) (s : State) : Happens c s (expireCancelTimerOf t s) := by
  unfold expireCancelTimerOf
  split
  · next h =>
    split
    · next hp =>
      have ha := aside_reportPosted t .lost s
      refine Happens.after ha (TagEvent.happens ?_)
      have hf' : ((reportPosted t .lost s).tag t).state.inFlight = true := by
        rw [ha.tag, h]
        rfl
      rw [orphanAndRelease_eq]
      exact departed_owing (f := .orphan) c (inOrderList_of_inFlight hf') (.refl t _) ⟨by rwa [ha.tag], hf'⟩ rfl
    · next hp =>
      have hf : (s.tag t).state.inFlight = true := by
        rw [h]
        rfl
      have fits : (Fate.complete lostEnding).Fits (s.tag t) := ⟨by simpa using hp, fun _ => hf, by simp [lostEnding]⟩
      rw [completeAndRelease_eq]
      exact (departed_owing c (inOrderList_of_inFlight hf) (.refl t s) fits rfl).happens
  · exact (Aside.refl s).happens c

/-! ## Received frames -/

theorem takeReportEnd_aside (s : State) : Aside s (takeReportEnd s) := by
  unfold takeReportEnd
  split
  · next h =>
    refine .trans (aside_updLink (.inl rfl)) (aside_changeState (.inr ?_))
    simp [h]
  · exact aside_protocolError s

theorem takeAttention_aside (u : UnitNo) (number : Byte) (cause : Halfword) (s : State) :
    Aside s (takeAttention u number cause s) := by
  unfold takeAttention
  split
  · split
    · exact aside_updUnit ⟨rfl, .inr (.inl rfl)⟩
    · exact aside_attnQueue _ s
  · exact aside_protocolError s

theorem takeUnitGone_happens (u : UnitNo) (s : State) : Happens c s (takeUnitGone u s) := by
  unfold takeUnitGone
  split
  · next h => exact (TagEvent.unitGone h).happens.then ((aside_attnQueue _ _).trans (aside_updEvents _ _))
  · exact (aside_protocolError s).happens c

theorem deliver_happens {s : State} (hs : InSession s) (m : Inbound) : Happens c s (deliver m s) := by
  cases m with
  | replyData t u final short offset count words =>
    exact takeReply_happens c t u (dataReply final short offset count words) s
  | replyDone t u => exact takeReply_happens c t u (some .done) s
  | replyRefuse t u reason => exact takeReply_happens c t u (refuseReply reason) s
  | unitReport u spaces classCode limit maxBlock =>
    simp only [deliver, takeUnitReport]
    split
    · next h => exact (TagEvent.reported hs h).happens.then (aside_of_same rfl)
    · exact (aside_protocolError s).happens c
  | reportEnd => exact (takeReportEnd_aside s).happens c
  | unitGone u => exact takeUnitGone_happens c u s
  | attention u number cause => exact (takeAttention_aside u number cause s).happens c
  | undefined => exact (aside_protocolError s).happens c

theorem sequenceMessage_happens {s : State} (hs : InSession s) (seq : SeqNo) (m : Inbound) :
    Happens c s (sequenceMessage seq m s) := by
  unfold sequenceMessage
  simp only
  split
  · exact Happens.after (aside_updRecv ReceiveSide.delivered s) (deliver_happens (s := updRecv ReceiveSide.delivered s) c hs m)
  · split <;> exact happens_of_same c rfl

/-- What a frame that passes its checks does, by what it does in TRAINING and in a session. -/
theorem receiveInEpoch_happens {epoch : Epoch} {inTraining inSession : State → State} {s : State}
    (ht : s.link.state = .training → Happens c s (inTraining s)) (hs : InSession s → Happens c s (inSession s)) :
    Happens c s (receiveInEpoch epoch inTraining inSession s) := by
  obtain ⟨-, h⟩ | ⟨-, -, h⟩ | ⟨h', -, h⟩ | ⟨h', -, h⟩ := receiveInEpoch_cases epoch inTraining inSession s
  · rw [h]
    exact (Aside.refl s).happens c
  · rw [h]
    exact happens_of_same c rfl
  · rw [h]
    exact ht h'
  · rw [h]
    exact hs h'

theorem receiveMessage_happens (h : MsgHeader) (m : Inbound) (s : State) : Happens c s (receiveMessage h m s) := by
  by_cases hd : s.link.state = .down ∨ s.link.state = .faulted
  · rw [receiveMessage_of_down hd]
    split
    · exact (aside_protocolError s).happens c
    · exact (Aside.refl s).happens c
  · have e : receiveMessage h m s = receiveInEpoch h.epoch id (sequenceMessage h.seq m) s := by
      unfold receiveMessage
      cases hl : s.link.state <;> simp_all
    rw [e]
    exact receiveInEpoch_happens c (fun _ => (Aside.refl s).happens c) fun hs => sequenceMessage_happens c hs h.seq m

theorem receiveTrain_happens (s : State) : Happens c s (receiveTrain s) := by
  unfold receiveTrain
  split
  · exact (TagEvent.linkLost _).happens
  · exact (TagEvent.linkLost _).happens
  · next h =>
    split
    · exact (enterTraining_aside (.inl h)).happens c
    · exact (Aside.refl s).happens c
  · next h =>
    split
    · exact (enterTraining_aside (.inr h)).happens c
    · exact (Aside.refl s).happens c
  · exact (Aside.refl s).happens c

theorem receiveTrainAck_happens (epoch : Epoch) (s : State) : Happens c s (receiveTrainAck epoch s) := by
  refine receiveInEpoch_happens c (fun h => Aside.happens ?_ c) fun _ => (Aside.refl s).happens c
  refine .trans (aside_updLink (.inl rfl)) (aside_changeState (.inr ?_))
  simp [h]

theorem receiveAck_happens (epoch : Epoch) (n : SeqNo) (s : State) : Happens c s (receiveAck epoch n s) :=
  receiveInEpoch_happens c (fun _ => (Aside.refl s).happens c) fun _ => (takeAck_aside n s).happens c

theorem receiveNak_happens (epoch : Epoch) (n : SeqNo) (s : State) : Happens c s (receiveNak epoch n s) :=
  receiveInEpoch_happens c (fun _ => (Aside.refl s).happens c) fun _ => takeNak_happens c n s

theorem receiveRaw_happens (f : RawFrame) (s : State) : Happens c s (receiveRaw f s) := by
  unfold receiveRaw
  split
  · unfold receiveBroken
    split <;> exact happens_of_same c rfl
  · next frame _ =>
    cases frame with
    | train e => exact receiveTrain_happens c s
    | trainAck e => exact receiveTrainAck_happens c e s
    | ack e n => exact receiveAck_happens c e n s
    | nak e n => exact receiveNak_happens c e n s
    | message h body => exact receiveMessage_happens c h _ s

end

/-! ## Every command -/

/-- Everything that a command can do to the tag table, the unit directory and the link state. -/
theorem exec_happens {c : Instr} {s t : State} (h : exec c s = .next t) : Happens c s t := by
  cases c with
  | submit operand => exact takeEvent_happens h (cmdSubmit_happens _ operand s)
  | cancel operand => exact takeEvent_happens h (onTag_happens _ (fun t => cancelTag_happens _ t s) operand)
  | popResult operand => exact takeEvent_happens h (cmdPopResult_happens _ (.inl ⟨operand, rfl⟩) operand s)
  | release operand => exact takeEvent_happens h (onTag_happens _ (fun t => releaseTag_happens _ t s) operand)
  | select operand => exact takeEvent_happens h (onTag_happens _ (fun t => (selectTag_aside t s).happens _) operand)
  | popAttention operand => exact takeEvent_happens h ((cmdPopAttention_aside operand s).happens _)
  | clearStaging operand => exact takeEvent_happens h ((cmdClearStaging_aside operand s).happens _)
  | clearPosted operand => exact takeEvent_happens h ((cmdClearPosted_aside operand s).happens _)
  | linkStart operand => exact takeEvent_happens h ((cmdLinkStart_aside operand s).happens _)
  | linkStop operand => exact takeEvent_happens h (cmdLinkStop_happens _ operand s)
  | softReset operand =>
    exact takeEvent_happens h (TagEvent.reset (.inl rfl) (wasReset_cmdSoftReset operand s)).happens
  | badCode code operand =>
    refine takeEvent_happens h (issueCommand_happens _ ?_ operand s)
    simp only [Instr.wellFormed]
    cases hc : definedCommandCodes.contains code with
    | true => exact .inl rfl
    | false => exact .inr (by simpa using hc)
  | stgDataHWrite value => exact takeEvent_happens h (happens_of_same _ rfl)
  | stgDataLWrite value => exact takeEvent_happens h ((writeStgDataL_aside value s).happens _)
  | rdDataHRead => exact takeRead_happens h ((readRdDataH_aside s).happens _)
  | rdDataLRead => exact takeRead_happens h ((readRdDataL_aside s).happens _)
  | unitMaskWrite value => exact takeEvent_happens h ((writeUnitMask_aside value s).happens _)
  | linkCtrlWrite value => exact takeEvent_happens h (happens_of_same _ rfl)
  | eventsWrite value => exact takeEvent_happens h (happens_of_same _ rfl)
  | eventEnWrite value => exact takeEvent_happens h (happens_of_same _ rfl)
  | resultCoalesceWrite value => exact takeEvent_happens h (happens_of_same _ rfl)
  | linkCounterWrite counter value => exact takeEvent_happens h ((clearLinkCounter_aside counter s).happens _)
  | protoErrorsWrite value => exact takeEvent_happens h (happens_of_same _ rfl)
  | unusedOffsetAccess place access =>
    cases access with
    | read => exact takeRead_happens h ((accessUnused_aside .read s).happens _)
    | write v => exact takeEvent_happens h ((accessUnused_aside (.write v) s).happens _)
  | registerWrite register value =>
    refine takeEvent_happens h (writeRegister_happens _ ?_ value s)
    cases hr : register.writeHasOwnRow with
    | true => exact .inl (by simp [Instr.wellFormed, hr])
    | false => exact .inr rfl
  | resetN asserted =>
    cases asserted with
    | true =>
      cases h
      exact TagEvent.happens (.reset (.inl rfl) wasReset_resetN)
    | false =>
      cases h
      exact happens_of_same _ rfl
  | lossOfSignal => exact takeEvent_happens h (loseEstablished_happens _ .signalLost s)
  | train epoch => exact takeEvent_happens h (receiveTrain_happens _ s)
  | trainAck epoch => exact takeEvent_happens h (receiveTrainAck_happens _ epoch s)
  | ack epoch number => exact takeEvent_happens h (receiveAck_happens _ epoch number s)
  | nak epoch number => exact takeEvent_happens h (receiveNak_happens _ epoch number s)
  | frameCheckFailure frame => exact takeEvent_happens h (receiveRaw_happens _ frame s)
  | messageOutOfSequence header body => exact takeEvent_happens h (receiveMessage_happens _ header _ s)
  | replyData header tag unit final short offset count words =>
    exact takeEvent_happens h (receiveMessage_happens _ header _ s)
  | replyDone header tag unit => exact takeEvent_happens h (receiveMessage_happens _ header _ s)
  | replyRefuse header tag unit reason => exact takeEvent_happens h (receiveMessage_happens _ header _ s)
  | unitReport header unit spaces classCode creditLimit maxBlock =>
    exact takeEvent_happens h (receiveMessage_happens _ header _ s)
  | reportEnd header => exact takeEvent_happens h (receiveMessage_happens _ header _ s)
  | unitGone header unit => exact takeEvent_happens h (receiveMessage_happens _ header _ s)
  | attention header unit number cause => exact takeEvent_happens h (receiveMessage_happens _ header _ s)
  | undefinedMessage header body => exact takeEvent_happens h (receiveMessage_happens _ header _ s)
  | replyTimerExpiry tag => exact takeEvent_happens h (expireReplyTimerOf_happens _ tag s)
  | cancelTimerExpiry tag => exact takeEvent_happens h (expireCancelTimerOf_happens _ tag s)
  | trainingIntervalEnd => exact takeEvent_happens h ((endTrainingInterval_aside s).happens _)
  | discoveryTimerExpiry => exact takeEvent_happens h (expireDiscoveryTimer_happens _ s)
  | replayTimerExpiry => exact takeEvent_happens h (expireReplayTimer_happens _ s)
  | ackDelayTimerExpiry => exact takeEvent_happens h ((expireAckDelay_aside s).happens _)
  | restartTimerExpiry => exact takeEvent_happens h ((expireRestartTimer_aside s).happens _)
  | holdoffTimerExpiry => exact takeEvent_happens h ((holdoffExpiry_aside s).happens _)
  | nakTake => exact takeEvent_happens h (takeItem_happens _ (happens_of_same _ rfl))
  | ackTake => exact takeEvent_happens h (takeItem_happens _ (happens_of_same _ rfl))
  | trainTake => exact takeEvent_happens h (takeItem_happens _ (happens_of_same _ rfl))
  | replayTake => exact takeEvent_happens h (takeItem_happens _ ((takeReplayItem_aside s).happens _))
  | attentionAckTake => exact takeEvent_happens h (takeItem_happens _ ((takeAttentionAckItem_aside s).happens _))
  | cancelTake => exact takeEvent_happens h (takeItem_happens _ (takeCancelItem_happens _ s))
  | requestTake => exact takeEvent_happens h (takeItem_happens _ (takeRequestItem_happens _ s))
  | transmitEnd => exact takeEvent_happens h (happens_of_same _ rfl)

/-- Every command answers a next state. -/
theorem exec_answers (c : Instr) (s : State) : ∃ t, exec c s = .next t := by
  cases c
  case rdDataHRead => exact takeRead_answers _ s
  case rdDataLRead => exact takeRead_answers _ s
  case unusedOffsetAccess place access =>
    cases access with
    | read => exact takeRead_answers _ s
    | write v => exact takeEvent_answers _ s
  case resetN asserted => cases asserted <;> exact ⟨_, rfl⟩
  all_goals exact takeEvent_answers _ s

/-- A condition that asides and every event of the tag table keep is kept by every step. -/
theorem keptByStep_of {P : State → Prop} (aside : ∀ {s s' : State}, Aside s s' → P s → P s')
    (event : ∀ {c : Instr} {s s' : State}, TagEvent c s s' → P s → P s') : KeptByStep P := by
  intro s t hP h
  unfold step at h
  split at h
  · cases h
    exact hP
  · next c rest _ =>
    obtain ⟨a, b, ha, hab, hb⟩ := exec_happens h
    have h0 : Aside s { s with pending := rest } := aside_of_same rfl
    exact aside hb (event hab (aside ha (aside h0 hP)))

/-- What holds of every two states between which a command's asides and event lie, holds of its answer. -/
theorem answers_of_happens {c : Instr} {s : State} {post : State → Prop} (h : ∀ t, Happens c s t → post t) :
    Answers (exec c s) post := by
  obtain ⟨t, ht⟩ := exec_answers c s
  exact ⟨t, ht, h t (exec_happens ht)⟩

end Sys2Proof.Machine
end


section
/-! SUPPORT. What an accepted SUBMIT, a dispatch and an eligible tag tell of the state they start from. -/

namespace Sys2Proof.Machine

/-! ## The lowest FREE tag (R3) -/

/-- In an ascending list the first element that satisfies p is the least. -/
theorem find?_eq_some_of_least {l : List Tag} (hl : l.Pairwise (· < ·)) {p : Tag → Bool} {t : Tag} (ht : t ∈ l)
    (hp : p t = true) (least : ∀ x, x < t → p x = false) : l.find? p = some t := by
  induction l with
  | nil => cases ht
  | cons a l ih =>
    obtain ⟨ha, hl⟩ := List.pairwise_cons.mp hl
    obtain rfl | ht := List.mem_cons.mp ht
    · rw [List.find?_cons_of_pos hp]
    · rw [List.find?_cons_of_neg (by simp [least a (ha t ht)])]
      exact ih hl ht

theorem lowestFreeTag_of_lowestFree {t : Tag} {s : State} (h : LowestFree t s) : lowestFreeTag s = some t :=
  find?_eq_some_of_least (List.pairwise_lt_finRange 32) (mem_allTags t) (by simpa using h.1) fun x hx => by
    simpa using h.2 x hx

theorem free_of_lowestFreeTag {s : State} {t : Tag} (h : lowestFreeTag s = some t) : (s.tag t).state = .free := by
  simpa using List.find?_some h

/-! ## The checks of SUBMIT -/

/-- What a SUBMIT that passes every check has found (Table 2.3). -/
structure Admitted (k : Kind) (s : State) : Prop where
  up : s.link.state = .up
  present : (s.unit s.staging.unit).present = true
  postedKind : s.staging.posted = true → k.mayBePosted = true

/-- A check that passes leaves the rest to be passed. -/
theorem passed_of_ite_eq_done {p : Prop} [Decidable p] {r x : CmdResult} (h : (if p then r else x) = .done)
    (hr : r ≠ .done) : ¬ p ∧ x = .done := by
  by_cases hp : p
  · rw [if_pos hp] at h
    exact absurd h hr
  · rw [if_neg hp] at h
    exact ⟨hp, h⟩

theorem admitted_of_submitCheck {s : State} {k : Kind} (h : submitCheck s = .done)
    (hk : kindOfCode s.staging.kindCode = some k) : Admitted k s := by
  rw [submitCheck, hk] at h
  obtain ⟨up, h⟩ := passed_of_ite_eq_done h (by decide)
  obtain ⟨unit, h⟩ := passed_of_ite_eq_done h (by decide)
  obtain ⟨-, h⟩ := passed_of_ite_eq_done h (by decide)
  obtain ⟨-, h⟩ := passed_of_ite_eq_done h (by decide)
  obtain ⟨-, h⟩ := passed_of_ite_eq_done h (by decide)
  obtain ⟨-, h⟩ := passed_of_ite_eq_done h (by decide)
  obtain ⟨-, h⟩ := passed_of_ite_eq_done h (by decide)
  obtain ⟨-, h⟩ := passed_of_ite_eq_done h (by decide)
  obtain ⟨posted, -⟩ := passed_of_ite_eq_done h (by decide)
  exact ⟨by simpa using up, by simpa using unit, by simpa using posted⟩

/-! ## Eligible tags -/

/-- What the tag that the dispatcher offers is (R50). -/
structure Eligible (t : Tag) (s : State) : Prop where
  queued : (s.tag t).state = .queued
  ahead : ∀ x ∈ (s.unit (s.tag t).unit).orderList.takeWhile (fun x => x ≠ t), (s.tag x).state.inFlight = true
  credit : (s.unit (s.tag t).unit).outstanding < (s.unit (s.tag t).unit).creditLimit

theorem eligible_of_dispatchChoice {s : State} {t : Tag} (h : dispatchChoice s = some t) : Eligible t s := by
  have h := List.find?_some h
  simp only [eligible, Bool.and_eq_true, decide_eq_true_eq, List.all_eq_true] at h
  obtain ⟨⟨⟨hq, ha⟩, hc⟩, -⟩ := h
  exact ⟨hq, ha, hc⟩

end Sys2Proof.Machine
end

section
/-! SUPPORT. The tag table and the unit directory after each event of the tag table: the record of every tag and of every
unit. -/

namespace Sys2Proof.Machine

/-! ## Tags -/

theorem tag_fillTag (t x : Tag) (k : Kind) (s : State) :
    (fillTag t k s).tag x = if x = t then
      stagedRecord k ((freeChunks s.store).take (k.chunksReserved s.staging.length.toNat)) s.staging else s.tag x :=
  tag_updTag t x _ _

theorem unit_fillTag (t : Tag) (v : UnitNo) (k : Kind) (s : State) : (fillTag t k s).unit v = s.unit v := rfl

theorem link_fillTag (t : Tag) (k : Kind) (s : State) : (fillTag t k s).link = s.link := rfl

theorem placeTag_cases (t : Tag) (k : Kind) (s : State) :
    (k ≠ .mark ∧ placeTag t k s = { updUnit (s.tag t).unit (fun r => { r with orderList := r.orderList ++ [t] }) s with
        dispatchQueue := s.dispatchQueue ++ [t] })
      ∨ (k = .mark ∧ (s.unit (s.tag t).unit).orderList = [] ∧ placeTag t k s = completeTag t markEnding s)
      ∨ (k = .mark ∧ (s.unit (s.tag t).unit).orderList ≠ []
        ∧ placeTag t k s = updUnit (s.tag t).unit (fun r => { r with orderList := r.orderList ++ [t] })
          (updTag t (fun r => { r with state := .waiting }) s)) := by
  unfold placeTag
  by_cases hk : k = .mark
  · by_cases ho : (s.unit (s.tag t).unit).orderList = []
    · exact .inr (.inl ⟨hk, ho, by simp only [hk, ho, if_true]⟩)
    · exact .inr (.inr ⟨hk, ho, by simp only [hk, ho, if_true, if_false]⟩)
  · exact .inl ⟨hk, by simp only [hk, if_false]; rfl⟩

theorem tag_placeTag (t x : Tag) (k : Kind) (s : State) (h : x ≠ t) : (placeTag t k s).tag x = s.tag x := by
  obtain ⟨-, e⟩ | ⟨-, -, e⟩ | ⟨-, -, e⟩ := placeTag_cases t k s <;> rw [e]
  · rfl
  · rw [tag_completeTag, if_neg h]
  · rw [updUnit_tag, tag_updTag_of_ne h]

theorem tag_sendRequest (t x : Tag) (s : State) :
    (sendRequest t s).tag x = if x = t then
      { s.tag t with
        state := if (s.tag t).posted then .posted else .sent
        timer := startedReplyTimer (s.unit (s.tag t).unit).replyTimeout }
    else s.tag x :=
  tag_updTag t x (fun r => { r with
    state := if r.posted then .posted else .sent, timer := startedReplyTimer (s.unit r.unit).replyTimeout }) s

theorem unit_sendRequest (t : Tag) (v : UnitNo) (s : State) :
    (sendRequest t s).unit v = if v = (s.tag t).unit then
      { s.unit v with outstanding := (s.unit v).outstanding + 1 } else s.unit v := by
  change (updUnit (s.tag t).unit (fun r => { r with outstanding := r.outstanding + 1 }) (updTag t _ s)).unit v = _
  rw [unit_updUnit]
  split
  · next h => rw [h]; rfl
  · rfl

theorem tag_sendCancel (t x : Tag) (rest : List Tag) (s : State) :
    (sendCancel t rest s).tag x = if x = t then
      { s.tag t with
        cancelPending := false, timer := startedCancelTimer (s.unit (s.tag t).unit).replyTimeout }
    else s.tag x :=
  tag_updTag t x _ _

theorem tag_creditFor (f : Fate) (t x : Tag) (s : State) : (creditFor f t s).tag x = s.tag x := by
  unfold creditFor
  split <;> rfl

/-- A unit's record after a credit may have returned: nothing but its outstanding count changes, and that does not rise. -/
theorem unit_creditFor (f : Fate) (t : Tag) (v : UnitNo) (s : State) :
    (creditFor f t s).unit v = { s.unit v with outstanding := ((creditFor f t s).unit v).outstanding }
      ∧ ((creditFor f t s).unit v).outstanding ≤ (s.unit v).outstanding := by
  unfold creditFor returnCredit
  split
  · rw [unit_updUnit]
    split
    · next h => rw [h]; exact ⟨rfl, Nat.sub_le _ _⟩
    · exact ⟨rfl, Nat.le_refl _⟩
  · exact ⟨rfl, Nat.le_refl _⟩

theorem creditFor_eq (f : Fate) (t : Tag) (s : State) :
    creditFor f t s = { s with units := (creditFor f t s).units } := by
  unfold creditFor
  split <;> rfl

/-- Every tag's record after a departure: the departing tag's by its fate, a released MARK's complete, the others as they
were. -/
theorem tag_depart (f : Fate) (t x : Tag) (s : State) :
    (f.depart t s).tag x =
      if x ∈ frontMarks (s.tag t).unit (f.act t s) then releasedMark ((f.act t s).tag x) else (f.act t s).tag x :=
  tag_releaseMarks _ x _

/-- A MARK that is released with a tag's departure is another tag, and was WAITING. -/
theorem waiting_of_mem_frontMarks_act {f : Fate} {t x : Tag} {s : State} {u : UnitNo}
    (h : x ∈ frontMarks u (f.act t s)) : x ≠ t ∧ (s.tag x).state = .waiting := by
  have hw := (mem_frontMarks h).2
  rw [f.tag_act] at hw
  split at hw
  · have := f.inOrderList_record (s.tag t)
    rw [hw] at this
    cases this
  · next hx => exact ⟨hx, hw⟩

/-- A tag's state after a departure. -/
theorem state_depart (f : Fate) (t x : Tag) (s : State) :
    (x = t ∧ (f.depart t s).tag x = f.record (s.tag t))
      ∨ (x ≠ t ∧ (s.tag x).state = .waiting ∧ (f.depart t s).tag x = releasedMark (s.tag x))
      ∨ (x ≠ t ∧ (f.depart t s).tag x = s.tag x) := by
  rw [tag_depart]
  split
  · next h =>
    obtain ⟨hx, hw⟩ := waiting_of_mem_frontMarks_act h
    rw [f.tag_act, if_neg hx]
    exact .inr (.inl ⟨hx, hw, rfl⟩)
  · rw [f.tag_act]
    by_cases hx : x = t
    · rw [if_pos hx]
      exact .inl ⟨hx, rfl⟩
    · rw [if_neg hx]
      exact .inr (.inr ⟨hx, rfl⟩)

theorem changeState_tag (target : LinkState) (s : State) (x : Tag) : (changeState target s).tag x = s.tag x := rfl

theorem changeState_unit (target : LinkState) (s : State) (v : UnitNo) : (changeState target s).unit v = s.unit v := rfl

theorem loseUnits_tag (s : State) (x : Tag) : (loseUnits s).tag x = s.tag x := by
  unfold loseUnits
  split <;> rfl

theorem loseTags_tag (s : State) (x : Tag) : (loseTags s).tag x = (settleAllTags s).tag x := by
  unfold loseTags
  generalize settleAllTags s = w
  rfl

theorem loseTags_unit (s : State) (v : UnitNo) : (loseTags s).unit v = (settleAllTags s).unit v := by
  unfold loseTags
  generalize settleAllTags s = w
  rfl

/-- The unit directory's and the attention block's part of link loss (R96, R110). -/
theorem loseUnits_eq (s : State) :
    loseUnits s = { s with
      units := (loseUnits s).units
      attnQueue := s.attnQueue.map (fun r => { r with attn := { r.attn with ackDue := false } })
      events := { s.events with unit := s.events.unit || anyPresent s } } := by
  unfold loseUnits
  cases anyPresent s with
  | true => simp [raiseUnit, updEvents, updUnits, Attn.withoutAck]
  | false => simp [updUnits, Attn.withoutAck]

/-- Link loss, from the state in which every tag is settled (R129). -/
theorem linkLoss_eq (reason : LossReason) (s : State) :
    linkLoss reason s = { settleAllTags s with
      dispatchQueue := [], owedCancels := []
      units := (linkLoss reason s).units
      attnQueue := (settleAllTags s).attnQueue.map (fun r => { r with attn := { r.attn with ackDue := false } })
      link := (linkLoss reason s).link
      events := { (settleAllTags s).events with
        link := true, unit := (settleAllTags s).events.unit || anyPresent (loseTags s) } } := by
  have h := loseUnits_eq (loseTags s)
  have hq : (loseTags s).attnQueue = (settleAllTags s).attnQueue := by
    unfold loseTags
    generalize settleAllTags s = w
    rfl
  have he : (loseTags s).events = (settleAllTags s).events := by
    unfold loseTags
    generalize settleAllTags s = w
    rfl
  have hu : (linkLoss reason s).units = (loseUnits (loseTags s)).units := by
    unfold linkLoss
    generalize loseUnits (loseTags s) = w
    rfl
  rw [hq, he] at h
  rw [hu]
  unfold linkLoss
  rw [changeState_eq]
  generalize anyPresent (loseTags s) = p at h ⊢
  generalize loseUnits (loseTags s) = w at h ⊢
  unfold loseTags at h
  generalize settleAllTags s = v at h ⊢
  obtain ⟨⟩ := w
  simp only [State.mk.injEq] at h
  obtain ⟨rfl, rfl, rfl, rfl, rfl, rfl, rfl, rfl, rfl, rfl, rfl, -, rfl, rfl, rfl⟩ := h
  rfl

theorem dispatchQueue_linkLoss (reason : LossReason) (s : State) : (linkLoss reason s).dispatchQueue = [] := by
  rw [linkLoss_eq]

theorem owedCancels_linkLoss (reason : LossReason) (s : State) : (linkLoss reason s).owedCancels = [] := by
  rw [linkLoss_eq]

theorem results_linkLoss (reason : LossReason) (s : State) :
    (linkLoss reason s).results = (settleAllTags s).results := by
  rw [linkLoss_eq]

theorem store_linkLoss (reason : LossReason) (s : State) : (linkLoss reason s).store = (settleAllTags s).store := by
  rw [linkLoss_eq]

/-- Every tag's record after link loss (R17). -/
theorem tag_linkLoss (reason : LossReason) (x : Tag) (s : State) :
    (linkLoss reason s).tag x = settledRecord .linkLost (s.tag x) := by
  unfold linkLoss
  rw [changeState_tag, updLink_tag, loseUnits_tag, loseTags_tag, tag_settleAllTags]

/-- A unit's record after link loss, from the one after the settlement (R96). -/
theorem unit_linkLoss (reason : LossReason) (v : UnitNo) (s : State) :
    (linkLoss reason s).unit v = lostUnit ((settleAllTags s).unit v) := by
  unfold linkLoss
  rw [changeState_unit, updLink_unit, unit_loseUnits, loseTags_unit]
  generalize (settleAllTags s).unit v = r
  rfl

/-- A unit's record after UNIT-GONE: the host-owned fields alone are left (R94). -/
def goneUnit (r : UnitRecord) : UnitRecord := { absentUnit r with held := none }

theorem unit_updUnit_gone (u v : UnitNo) (s : State) :
    (updUnit u (fun r => { absentUnit r with held := none }) s).unit v
      = if v = u then goneUnit (s.unit u) else s.unit v :=
  unit_updUnit u v _ s

end Sys2Proof.Machine
end


section
/-! SUPPORT. Table 1.3: the moves of the tags (O5). -/

namespace Sys2Proof.Machine

/-- A change of a tag's state that keeps it or is one of Table 1.3. -/
def Moves (p q : TagState) : Prop := q = p ∨ (p, q) ∈ tagMoves

/-- A posted tag in flight is in POSTED or CANCELLING, and a tag in POSTED is posted (R14). -/
structure PostedSound (r : TagRecord) : Prop where
  states : r.posted = true → r.state = .queued ∨ r.state = .posted ∨ r.state = .cancelling ∨ r.state = .orphaned
  posted : r.state = .posted → r.posted = true

theorem StatesSound.posted {s : State} (h : StatesSound s) (x : Tag) : PostedSound (s.tag x) :=
  ⟨(h x).1, (h x).2.1⟩

/-- A move of Table 1.3, by the two states. -/
theorem Moves.of {p q p' q' : TagState} (hp : p = p') (hq : q = q') (h : (p', q') ∈ tagMoves) : Moves p q :=
  .inr (hp ▸ hq ▸ h)

theorem complete_mem_tagMoves {p : TagState} (live : p.inOrderList = true) (h : p ≠ .posted) :
    (p, TagState.complete) ∈ tagMoves := by
  revert live h
  cases p <;> decide

theorem free_mem_tagMoves {p : TagState} (h : p = .queued ∨ p = .posted ∨ p = .cancelling ∨ p = .orphaned) :
    (p, TagState.free) ∈ tagMoves := by
  obtain rfl | rfl | rfl | rfl := h <;> decide

/-- A settlement moves a tag along Table 1.3 (R17, R18). -/
theorem moves_settledRecord {r : TagRecord} (h : PostedSound r) (outcome : TxOutcome) :
    Moves r.state (settledRecord outcome r).state := by
  have live (hl : r.state.inOrderList = true) (e : Ending) :
      Moves r.state (if r.posted = true then {} else completedRecord e r : TagRecord).state := by
    split
    · next hp => exact .inr (free_mem_tagMoves (h.states hp))
    · next hp => exact .inr (complete_mem_tagMoves hl fun hs => hp (h.posted hs))
  unfold settledRecord
  split
  case h_1 => exact .inl rfl
  case h_2 hs => exact .inr (free_mem_tagMoves (.inr (.inr (.inr hs))))
  case h_3 => exact .inl rfl
  all_goals
    next hs => exact live (by rw [hs]; rfl) _

/-- The fate of a live tag is a move of Table 1.3. -/
theorem moves_of_fits {f : Fate} {r : TagRecord} (h : PostedSound r) (live : r.state.inOrderList = true)
    (fits : f.Fits r) : Moves r.state (f.record r).state := by
  cases f with
  | complete e =>
    obtain ⟨hn, -⟩ := fits
    exact .inr (complete_mem_tagMoves live fun hs => by simp [h.posted hs] at hn)
  | free => exact .inr (free_mem_tagMoves (h.states fits.1))
  | orphan =>
    obtain ⟨hp, hf⟩ := fits
    obtain hs | hs | hs | hs := h.states hp
    · rw [hs] at hf
      cases hf
    · exact .of (q' := .orphaned) hs rfl (by decide)
    · exact .of (q' := .orphaned) hs rfl (by decide)
    · rw [hs] at hf
      cases hf

/-- Where one tag alone changes its record, every tag's state moves as that one's does. -/
theorem moves_of_one {s s' : State} {t : Tag} (others : ∀ x, x ≠ t → s'.tag x = s.tag x)
    (own : Moves (s.tag t).state (s'.tag t).state) (x : Tag) : Moves (s.tag x).state (s'.tag x).state := by
  by_cases hx : x = t
  · rw [hx]
    exact own
  · exact .inl (by rw [others x hx])

theorem Touches.state {t : Tag} {s s' : State} (h : Touches t s s') (x : Tag) : (s'.tag x).state = (s.tag x).state := by
  by_cases hx : x = t
  · rw [hx, h.own]
  · rw [h.others x hx]

theorem Touches.posted {t : Tag} {s s' : State} (h : Touches t s s') : (s'.tag t).posted = (s.tag t).posted := by
  rw [h.own]

/-- Every event of the tag table moves every tag along Table 1.3; a reset makes it FREE. -/
theorem TagEvent.moves {c : Instr} {s s' : State} (h : TagEvent c s s') (hs : StatesSound s) (hc : c.wellFormed = true)
    (x : Tag) : Moves (s.tag x).state (s'.tag x).state ∨ (isReset c = true ∧ (s'.tag x).state = .free) := by
  cases h with
  | still => exact .inl (.inl rfl)
  | @submitted k t check kind lowest =>
    refine .inl (moves_of_one (t := t) (fun x hx => ?_) ?_ x)
    · rw [tag_placeTag t x k _ hx, tag_fillTag, if_neg hx]
    · have hfree := free_of_lowestFreeTag lowest
      have hfill : ((fillTag t k s).tag t).state = .queued := by
        rw [tag_fillTag, if_pos rfl]
        rfl
      obtain ⟨-, e⟩ | ⟨-, -, e⟩ | ⟨-, -, e⟩ := placeTag_cases t k (fillTag t k s) <;> rw [e]
      · exact .of hfree hfill (by decide)
      · rw [tag_completeTag, if_pos rfl]
        exact .of (q' := .complete) hfree rfl (by decide)
      · rw [updUnit_tag, tag_updTag_self]
        exact .of (q' := .waiting) hfree rfl (by decide)
  | @popped r rest queue command =>
    refine .inl (.inl ?_)
    exact tag_updTag_proj TagRecord.state r.tag x _ { s with results := rest } rfl
  | @released t complete popped =>
    refine .inl (moves_of_one (t := t) (fun x hx => by rw [Fate.tag_act, if_neg hx]) ?_ x)
    rw [Fate.tag_act, if_pos rfl]
    cases (s.tag t).farReplyPending with
    | true => exact .of (q' := .orphaned) complete rfl (by decide)
    | false => exact .of (q' := .free) complete rfl (by decide)
  | touched live touch => exact .inl (.inl (touch.state x))
  | @segment s' t state posted touch =>
    refine .inl (moves_of_one (t := t) (fun x hx => ?_) ?_ x)
    · rw [tag_updTag_of_ne hx, touch.others x hx]
    · rw [tag_updTag_self, ← touch.state t]
      simp only [segmentRecord]
      split
      · next h => rw [h]; exact .inr (by decide)
      · exact .inl rfl
  | @cancelling t cause state =>
    refine .inl (moves_of_one (t := t) (fun x hx => by rw [tag_enterCancelling, if_neg hx]) ?_ x)
    rw [tag_enterCancelling, if_pos rfl]
    obtain h | h | h := state <;> exact .of (q' := .cancelling) h rfl (by decide)
  | @departed s' t f live touch fits =>
    left
    obtain ⟨rfl, e⟩ | ⟨-, hw, e⟩ | ⟨-, e⟩ := state_depart f t x (creditFor f t s') <;> rw [e]
    · rw [tag_creditFor, ← touch.state x]
      refine moves_of_fits ⟨?_, ?_⟩ (by rwa [touch.state]) fits
      · rw [touch.state, touch.posted]
        exact (hs.posted x).states
      · rw [touch.state, touch.posted]
        exact (hs.posted x).posted
    · rw [tag_creditFor, touch.state] at hw
      rw [hw]
      exact .inr (by simp [releasedMark, completedRecord, tagMoves])
    · rw [tag_creditFor, touch.state]
      exact .inl rfl
  | @freed t orphaned =>
    refine .inl (moves_of_one (t := t) (fun x hx => by rw [Fate.tag_act, if_neg hx]; rfl) ?_ x)
    rw [Fate.tag_act, if_pos rfl]
    exact .of (q' := .free) orphaned rfl (by decide)
  | @paid t complete owed =>
    exact .inl (.inl (tag_updTag_proj TagRecord.state t x _ (returnCredit (s.tag t).unit s) rfl))
  | @requested t choice =>
    refine .inl (moves_of_one (t := t) (fun x hx => by rw [tag_sendRequest, if_neg hx]) ?_ x)
    rw [tag_sendRequest, if_pos rfl, (eligible_of_dispatchChoice choice).queued]
    simp only
    split <;> exact .inr (by decide)
  | @cancelSent t rest head =>
    refine .inl (moves_of_one (t := t) (fun x hx => by rw [tag_sendCancel, if_neg hx]) ?_ x)
    rw [tag_sendCancel, if_pos rfl]
    exact .inl rfl
  | reported session accepted => exact .inl (.inl rfl)
  | @unitGone u present =>
    left
    rw [updUnit_tag, tag_settleUnitTags]
    split
    · exact moves_settledRecord (hs.posted x) _
    · exact .inl rfl
  | linkLost reason =>
    left
    rw [tag_linkLoss]
    exact moves_settledRecord (hs.posted x) _
  | reset command after =>
    right
    rw [after.tag, hc] at *
    exact ⟨by simpa using command, rfl⟩

/-- Settles O5: each event of the tag table moves each tag along Table 1.3, and asides move none. -/
theorem tagStatesFollowTable : Obligations.TagStatesFollowTable := by
  intro s c x hc hs
  refine answers_of_happens fun t ⟨a, b, ha, hab, hb⟩ => ?_
  have hsa : StatesSound a := fun y => by
    rw [ha.tag]
    exact hs y
  rw [hb.tag, ← ha.tag]
  exact or_assoc.mp (hab.moves hsa hc x)

end Sys2Proof.Machine
end

section
/-! SUPPORT. Quiet tags and ABSENT units (O57). -/

namespace Sys2Proof.Machine

/-- A tag that is FREE, or COMPLETE with no reply owed (R17). -/
def TagRecord.Quiet (r : TagRecord) : Prop := r.state = .free ∨ (r.state = .complete ∧ r.farReplyPending = false)

/-- An ABSENT unit holds the ABSENT values, a PRESENT one those that a report may give (Table 6.1, R89). -/
def UnitRecord.Sound (r : UnitRecord) : Prop :=
  (r.present = false → r.classCode = 0 ∧ r.creditLimit = 0 ∧ r.maxBlock = 0 ∧ r.spaces = 0 ∧ r.outstanding = 0
      ∧ r.orderList = [] ∧ r.ackOwed = none)
    ∧ (r.present = true → 1 ≤ r.creditLimit ∧ r.creditLimit ≤ 8 ∧ 1 ≤ r.maxBlock ∧ r.maxBlock ≤ 64)

/-- The condition of O57, tag by tag and unit by unit. -/
structure QuietAndSound (s : State) : Prop where
  quiet : s.link.state ≠ .up → ∀ x, (s.tag x).Quiet
  sound : ∀ v, (s.unit v).Sound
  absent : ¬ InSession s → ∀ v, (s.unit v).present = false

theorem quietAndSound_iff (s : State) : QuietAndSound s ↔ QuietUnlessUp s ∧ DirectorySound s := by
  constructor
  · rintro ⟨hq, hs, ha⟩
    exact ⟨hq, fun v => (hs v).1, fun v => (hs v).2, fun h h' => ha (by simp [InSession, h, h'])⟩
  · rintro ⟨hq, h0, h1, ha⟩
    refine ⟨hq, fun v => ⟨h0 v, h1 v⟩, fun h => ?_⟩
    simp only [InSession, not_or] at h
    exact ha h.1 h.2

/-- A change of a unit's order list and outstanding count alone: an ABSENT unit's only shrink. -/
def UnitKept (r r' : UnitRecord) : Prop :=
  r' = { r with orderList := r'.orderList, outstanding := r'.outstanding }
    ∧ (r.present = true ∨ (r'.orderList.Sublist r.orderList ∧ r'.outstanding ≤ r.outstanding))

theorem UnitKept.refl (r : UnitRecord) : UnitKept r r := ⟨rfl, .inr ⟨.refl _, Nat.le_refl _⟩⟩

theorem UnitKept.present {r r' : UnitRecord} (h : UnitKept r r') : r'.present = r.present := by rw [h.1]

theorem UnitKept.trans {r r' r'' : UnitRecord} (h : UnitKept r r') (h' : UnitKept r' r'') : UnitKept r r'' := by
  have hp := h.present
  obtain ⟨e, hk⟩ := h
  obtain ⟨e', hk'⟩ := h'
  refine ⟨by rw [e', e], ?_⟩
  obtain hk | ⟨hl, ho⟩ := hk
  · exact .inl hk
  obtain hk' | ⟨hl', ho'⟩ := hk'
  · exact .inl (hp ▸ hk')
  · exact .inr ⟨hl'.trans hl, ho'.trans ho⟩

theorem UnitKept.sound {r r' : UnitRecord} (h : UnitKept r r') (hs : r.Sound) : r'.Sound := by
  obtain ⟨e, hk⟩ := h
  obtain ⟨h0, h1⟩ := hs
  have hp : r'.present = r.present := by rw [e]
  refine ⟨fun ha => ?_, fun hpr => ?_⟩
  · obtain ⟨hc, hl, hm, hsp, ho, hq, hack⟩ := h0 (hp ▸ ha)
    obtain hk | ⟨hsub, hle⟩ := hk
    · rw [← hp, ha] at hk
      cases hk
    · rw [hq, List.sublist_nil] at hsub
      have ho' : r'.outstanding = 0 := by omega
      rw [e]
      exact ⟨hc, hl, hm, hsp, ho', hsub, hack⟩
  · have := h1 (hp ▸ hpr)
    rw [e]
    exact this

theorem unitKept_leaveLists (t : Tag) (s : State) (v : UnitNo) : UnitKept (s.unit v) ((leaveLists t s).unit v) := by
  rw [unit_leaveLists]
  split
  · exact ⟨rfl, .inr ⟨List.filter_sublist, Nat.le_refl _⟩⟩
  · exact .refl _

theorem unitKept_act (f : Fate) (t : Tag) (s : State) (v : UnitNo) : UnitKept (s.unit v) ((f.act t s).unit v) := by
  rw [f.unit_act]
  exact unitKept_leaveLists t s v

theorem unitKept_depart (f : Fate) (t : Tag) (s : State) (v : UnitNo) : UnitKept (s.unit v) ((f.depart t s).unit v) := by
  refine (unitKept_act f t s v).trans ?_
  rw [Fate.depart, unit_releaseMarks]
  exact ⟨rfl, .inr ⟨List.filter_sublist, Nat.le_refl _⟩⟩

theorem unitKept_creditFor (f : Fate) (t : Tag) (s : State) (v : UnitNo) :
    UnitKept (s.unit v) ((creditFor f t s).unit v) := by
  obtain ⟨e, hle⟩ := unit_creditFor f t v s
  exact ⟨by rw [e], .inr ⟨by rw [e], hle⟩⟩

theorem unitKept_returnCredit (u v : UnitNo) (s : State) : UnitKept (s.unit v) ((returnCredit u s).unit v) := by
  unfold returnCredit
  rw [unit_updUnit]
  split
  · next h =>
    rw [h]
    exact ⟨rfl, .inr ⟨.refl _, Nat.sub_le _ _⟩⟩
  · exact .refl _

theorem Touches.unit {t : Tag} {s s' : State} (h : Touches t s s') (v : UnitNo) : s'.unit v = s.unit v := by
  rw [h.frame]
  rfl

theorem Touches.link {t : Tag} {s s' : State} (h : Touches t s s') : s'.link = s.link := by
  rw [h.frame]

theorem settledRecord_quiet (outcome : TxOutcome) (r : TagRecord) : (settledRecord outcome r).Quiet := by
  unfold settledRecord TagRecord.Quiet
  split
  case h_1 h => exact .inl h
  case h_3 h => exact .inr ⟨h, rfl⟩
  case h_2 => exact .inl rfl
  all_goals
    split
    · exact .inl rfl
    · exact .inr ⟨rfl, rfl⟩

/-- A settlement of tags keeps each unit's learned fields, and shrinks the lists. -/
theorem unitKept_settleTag (outcome : TxOutcome) (reason : PostedReason) (t : Tag) (s : State) (v : UnitNo) :
    UnitKept (s.unit v) ((settleTag outcome reason t s).unit v) := by
  obtain ⟨-, e⟩ | ⟨-, e⟩ | ⟨-, e⟩ | ⟨-, -, e⟩ | ⟨-, -, e⟩ := settleTag_cases outcome reason t s <;> rw [e]
  · exact .refl _
  · exact .refl _
  · exact unitKept_act _ t s v
  · exact unitKept_act _ t (reportPosted t reason s) v
  · exact unitKept_act _ t s v

theorem unitKept_settleAllTags (s : State) (v : UnitNo) : UnitKept (s.unit v) ((settleAllTags s).unit v) :=
  foldl_preserves (fun s' => UnitKept (s.unit v) (s'.unit v)) _ (fun _ t h => h.trans (unitKept_settleTag _ _ t _ v)) _ s
    (.refl _)

theorem unitKept_settleUnitTags (u : UnitNo) (s : State) (v : UnitNo) :
    UnitKept (s.unit v) ((settleUnitTags u s).unit v) :=
  foldl_preserves (fun s' => UnitKept (s.unit v) (s'.unit v)) _
    (fun s' t h => by
      split
      · exact h.trans (unitKept_settleTag _ _ t s' v)
      · exact h) _ s (.refl _)

theorem link_settleUnitTags (u : UnitNo) (s : State) : (settleUnitTags u s).link = s.link :=
  foldl_keeps State.link _ (fun s' t => by
    split
    · rw [settleTag_frame]
    · rfl) _ s

theorem goneUnit_sound (r : UnitRecord) : (goneUnit r).Sound := ⟨fun _ => ⟨rfl, rfl, rfl, rfl, rfl, rfl, rfl⟩, nofun⟩

theorem goneUnit_present (r : UnitRecord) : (goneUnit r).present = false := rfl

theorem lostUnit_sound (r : UnitRecord) : (lostUnit r).Sound := ⟨fun _ => ⟨rfl, rfl, rfl, rfl, rfl, rfl, rfl⟩, nofun⟩

theorem lostUnit_present (r : UnitRecord) : (lostUnit r).present = false := rfl

theorem QuietAndSound.aside {s s' : State} (ha : Aside s s') (h : QuietAndSound s) : QuietAndSound s' where
  quiet hl x := by
    rw [ha.tag]
    refine h.quiet (fun e => ?_) x
    obtain hk | ⟨hk, -⟩ := ha.link
    · exact hl (hk.trans e)
    · exact hk e
  sound v := by
    obtain ⟨e, hack⟩ := ha.units v
    obtain ⟨h0, h1⟩ := h.sound v
    have hp : (s'.unit v).present = (s.unit v).present := by rw [e]
    refine ⟨fun hab => ?_, fun hpr => ?_⟩
    · obtain ⟨hc, hl, hm, hsp, ho, hq, hk⟩ := h0 (hp ▸ hab)
      have hk' : (s'.unit v).ackOwed = none := by
        obtain hack | hack | hack := hack
        · exact hack
        · exact hack.trans hk
        · rw [← hp, hab] at hack
          cases hack
      rw [e]
      exact ⟨hc, hl, hm, hsp, ho, hq, hk'⟩
    · have := h1 (hp ▸ hpr)
      rw [e]
      exact this
  absent hl v := by
    have hp : (s'.unit v).present = (s.unit v).present := by rw [(ha.units v).1]
    rw [hp]
    refine h.absent (fun hs => hl ?_) v
    obtain hk | ⟨hk, hd⟩ := ha.link
    · simpa [InSession, hk] using hs
    · exact .inr (hd (hs.resolve_right hk))

/-- An event that keeps the link state and what is learned of the units keeps the condition, where it keeps quiet tags
quiet. -/
theorem QuietAndSound.kept {s s' : State} (h : QuietAndSound s) (link : s'.link.state = s.link.state)
    (units : ∀ v, UnitKept (s.unit v) (s'.unit v))
    (tags : s.link.state ≠ .up → (∀ x, (s.tag x).Quiet) → ∀ x, (s'.tag x).Quiet) : QuietAndSound s' where
  quiet hl := tags (link ▸ hl) (h.quiet (link ▸ hl))
  sound v := (units v).sound (h.sound v)
  absent hl v := by
    rw [(units v).present]
    exact h.absent (by simpa [InSession, link] using hl) v

theorem TagRecord.Quiet.not_live {r : TagRecord} (h : r.Quiet) (hl : r.state.inOrderList = true) : False := by
  obtain h | ⟨h, -⟩ := h <;> simp [h, TagState.inOrderList] at hl

theorem placeTag_link (t : Tag) (k : Kind) (s : State) : (placeTag t k s).link = s.link := by
  obtain ⟨-, e⟩ | ⟨-, -, e⟩ | ⟨-, -, e⟩ := placeTag_cases t k s <;> rw [e] <;> rfl

theorem unitKept_placeTag {t : Tag} {k : Kind} {s : State} (hp : (s.unit (s.tag t).unit).present = true) (v : UnitNo) :
    UnitKept (s.unit v) ((placeTag t k s).unit v) := by
  have append (s' : State) (hs' : ∀ v, s'.unit v = s.unit v) :
      UnitKept (s.unit v) ((updUnit (s.tag t).unit (fun r => { r with orderList := r.orderList ++ [t] }) s').unit v) := by
    rw [unit_updUnit, hs', hs']
    split
    · next e => rw [e]; exact ⟨rfl, .inl hp⟩
    · exact .refl _
  obtain ⟨-, e⟩ | ⟨-, -, e⟩ | ⟨-, -, e⟩ := placeTag_cases t k s <;> rw [e]
  · exact append s fun _ => rfl
  · exact unitKept_act (.complete markEnding) t s v
  · exact append _ fun _ => rfl

theorem QuietAndSound.event {c : Instr} {s s' : State} (he : TagEvent c s s') (h : QuietAndSound s) :
    QuietAndSound s' := by
  cases he with
  | still => exact h
  | @submitted k t check kind lowest =>
    obtain ⟨up, present, -⟩ := admitted_of_submitCheck check kind
    have hu : (((fillTag t k s).tag t).unit) = s.staging.unit := by
      rw [tag_fillTag, if_pos rfl]
      rfl
    refine h.kept (by rw [placeTag_link, link_fillTag]) (fun v => ?_) (fun hl => absurd up hl)
    rw [← unit_fillTag t v k s]
    refine unitKept_placeTag ?_ v
    rwa [hu, unit_fillTag]
  | @popped r rest queue command =>
    refine h.kept rfl (fun v => .refl _) fun _ hq x => ?_
    have e := tag_updTag r.tag x (fun r => { r with popped := true }) { s with results := rest }
    rw [e]
    split
    · exact hq r.tag
    · exact hq x
  | @released t complete popped =>
    refine h.kept (by rw [Fate.link_act]) (fun v => unitKept_act _ t s v) fun _ hq x => ?_
    rw [Fate.tag_act]
    split
    · have : (s.tag t).farReplyPending = false := by
        obtain h' | ⟨-, h'⟩ := hq t
        · rw [complete] at h'
          cases h'
        · exact h'
      rw [this]
      exact .inl rfl
    · exact hq x
  | @touched s' t live touch =>
    exact h.kept (by rw [touch.link]) (fun v => by rw [touch.unit]; exact .refl _) fun _ hq => ((hq t).not_live live).elim
  | @segment s' t state posted touch =>
    exact h.kept (by rw [updTag_link, touch.link]) (fun v => by rw [updTag_unit, touch.unit]; exact .refl _)
      fun _ hq => ((hq t).not_live (inOrderList_of_inFlight state)).elim
  | @cancelling t cause state =>
    refine h.kept rfl (fun v => .refl _) fun _ hq => ((hq t).not_live ?_).elim
    obtain e | e | e := state <;> rw [e] <;> rfl
  | @departed s' t f live touch fits =>
    refine h.kept ?_ (fun v => ?_) fun _ hq => ((hq t).not_live live).elim
    · rw [Fate.depart, link_releaseMarks, Fate.link_act, creditFor_eq, touch.link]
    · have hk := (unitKept_creditFor f t s' v).trans (unitKept_depart f t _ v)
      rwa [touch.unit] at hk
  | @freed t orphaned =>
    refine h.kept (by rw [Fate.link_act]; rfl) (fun v => (unitKept_returnCredit _ v s).trans (unitKept_act _ t _ v))
      fun _ hq => ?_
    obtain e | ⟨e, -⟩ := hq t <;> rw [orphaned] at e <;> cases e
  | @paid t complete owed =>
    refine h.kept rfl (fun v => unitKept_returnCredit _ v s) fun _ hq => ?_
    obtain e | ⟨-, e⟩ := hq t
    · rw [complete] at e
      cases e
    · rw [owed] at e
      cases e
  | @requested t choice =>
    obtain ⟨queued, -, credit⟩ := eligible_of_dispatchChoice choice
    refine h.kept rfl (fun v => ?_) fun _ hq => ((hq t).not_live (by rw [queued]; rfl)).elim
    rw [unit_sendRequest]
    split
    · next e =>
      refine ⟨rfl, .inl ?_⟩
      cases hp : (s.unit v).present with
      | true => rfl
      | false =>
        obtain ⟨-, hl, -⟩ := (h.sound v).1 hp
        rw [← e, hl] at credit
        exact absurd credit (Nat.not_lt_zero _)
    · exact .refl _
  | @cancelSent t rest head =>
    refine h.kept rfl (fun v => .refl _) fun _ hq x => ?_
    rw [tag_sendCancel]
    split
    · exact hq t
    · exact hq x
  | @reported u spaces classCode limit maxBlock session accepted =>
    simp only [reportAccepted, Bool.and_eq_true, decide_eq_true_eq] at accepted
    obtain ⟨⟨-, hl1, hl8⟩, hm1, hm64⟩ := accepted
    refine ⟨h.quiet, fun v => ?_, fun hn => absurd session hn⟩
    rw [unit_updUnit]
    split
    · exact ⟨nofun, fun _ => ⟨hl1, hl8, hm1, hm64⟩⟩
    · exact h.sound v
  | @unitGone u present =>
    have kept := h.kept (s' := settleUnitTags u s) (by rw [link_settleUnitTags]) (unitKept_settleUnitTags u s)
      fun _ hq x => by
        rw [tag_settleUnitTags]
        split
        · exact settledRecord_quiet _ _
        · exact hq x
    generalize settleUnitTags u s = w at kept
    refine ⟨kept.quiet, fun v => ?_, fun hn v => ?_⟩
    · rw [unit_updUnit_gone]
      split
      · exact goneUnit_sound _
      · exact kept.sound v
    · rw [unit_updUnit_gone]
      split
      · exact goneUnit_present _
      · exact kept.absent hn v
  | linkLost reason =>
    refine ⟨fun _ x => ?_, fun v => ?_, fun _ v => ?_⟩
    · rw [tag_linkLoss]
      exact settledRecord_quiet _ _
    · rw [unit_linkLoss]
      exact lostUnit_sound _
    · rw [unit_linkLoss]
      exact lostUnit_present _
  | reset command after =>
    refine ⟨fun _ x => ?_, fun v => ?_, fun _ v => ?_⟩
    · rw [after.tag]
      exact .inl rfl
    · rw [after.units]
      exact ⟨fun _ => ⟨rfl, rfl, rfl, rfl, rfl, rfl, rfl⟩, nofun⟩
    · rw [after.units]

/-- Settles O57: asides and every event of the tag table keep quiet tags quiet and ABSENT units blank. -/
theorem keptQuietUnlessUp : Obligations.KeptQuietUnlessUp := by
  have h : KeptByStep QuietAndSound := keptByStep_of QuietAndSound.aside QuietAndSound.event
  rwa [funext fun s => propext (quietAndSound_iff s)] at h

end Sys2Proof.Machine
end


section
/-! SUPPORT. The dispatch queue, the order lists and the owed-cancel list through every event of the tag table. -/

namespace Sys2Proof.Machine

/-! ## What leaves the lists exact -/

theorem DispatchQueueExact.of_same {s s' : State} (h : DispatchQueueExact s) (queue : s'.dispatchQueue = s.dispatchQueue)
    (tags : ∀ x, (s'.tag x).state = .queued ↔ (s.tag x).state = .queued) : DispatchQueueExact s' := by
  obtain ⟨hd, hm⟩ := h
  exact ⟨queue ▸ hd, fun x => by rw [queue, hm, tags]⟩

theorem OrderListsExact.of_same {s s' : State} (h : OrderListsExact s)
    (lists : ∀ v, (s'.unit v).orderList = (s.unit v).orderList)
    (tags : ∀ x v, ((s'.tag x).unit = v ∧ (s'.tag x).state.inOrderList = true)
      ↔ ((s.tag x).unit = v ∧ (s.tag x).state.inOrderList = true)) : OrderListsExact s' := by
  intro v
  rw [lists]
  exact ⟨(h v).1, fun x => by rw [(h v).2, tags]⟩

theorem SentStandFirst.of_same {s s' : State} (h : SentStandFirst s)
    (lists : ∀ v, (s'.unit v).orderList = (s.unit v).orderList)
    (tags : ∀ x, ((s'.tag x).state.unsent = true → (s.tag x).state.unsent = true)
      ∧ ((s'.tag x).state.inFlight = true → (s.tag x).state.inFlight = true)) : SentStandFirst s' := by
  intro v
  rw [lists]
  exact (h v).imp fun hab ⟨ha, hb⟩ => hab ⟨(tags _).1 ha, (tags _).2 hb⟩

theorem OwedCancelsExact.of_same {s s' : State} (h : OwedCancelsExact s) (list : s'.owedCancels = s.owedCancels)
    (tags : ∀ x, (s'.tag x).cancelPending = (s.tag x).cancelPending
      ∧ ((s.tag x).cancelPending = true → (s.tag x).state = .cancelling → (s'.tag x).state = .cancelling)) :
    OwedCancelsExact s' := by
  obtain ⟨hd, hm, hc⟩ := h
  refine ⟨list ▸ hd, fun x => by rw [list, hm, (tags x).1], fun x hx => ?_⟩
  rw [(tags x).1] at hx
  exact (tags x).2 hx (hc x hx)

/-- What the lists ask of a tag's record stays as it was. -/
structure SameStanding (r r' : TagRecord) : Prop where
  unit : r'.unit = r.unit
  cancelPending : r'.cancelPending = r.cancelPending
  state : r'.state = r.state ∨ (r.state = .sent ∧ r'.state = .receiving)

theorem SameStanding.refl (r : TagRecord) : SameStanding r r := ⟨rfl, rfl, .inl rfl⟩

theorem ListsExact.of_same {s s' : State} (h : ListsExact s) (queue : s'.dispatchQueue = s.dispatchQueue)
    (cancels : s'.owedCancels = s.owedCancels) (lists : ∀ v, (s'.unit v).orderList = (s.unit v).orderList)
    (tags : ∀ x, SameStanding (s.tag x) (s'.tag x)) : ListsExact s' := by
  obtain ⟨hd, ho, hs, hc⟩ := h
  refine ⟨hd.of_same queue fun x => ?_, ho.of_same lists fun x v => ?_, hs.of_same lists fun x => ?_,
    hc.of_same cancels fun x => ⟨(tags x).cancelPending, fun _ hx => ?_⟩⟩
  · obtain e | ⟨e, e'⟩ := (tags x).state
    · rw [e]
    · simp [e, e']
  · obtain e | ⟨e, e'⟩ := (tags x).state
    · rw [e, (tags x).unit]
    · simp [e, e', (tags x).unit, TagState.inOrderList]
  · obtain e | ⟨e, e'⟩ := (tags x).state
    · rw [e]
      exact ⟨id, id⟩
    · rw [e, e']
      exact ⟨id, fun _ => rfl⟩
  · obtain e | ⟨e, -⟩ := (tags x).state
    · rwa [e]
    · rw [hx] at e
      cases e

/-! ## Where a tag stands -/

theorem ListsExact.dispatch {s : State} (h : ListsExact s) : DispatchQueueExact s := h.1

theorem ListsExact.orders {s : State} (h : ListsExact s) : OrderListsExact s := h.2.1

theorem ListsExact.sentFirst {s : State} (h : ListsExact s) : SentStandFirst s := h.2.2.1

theorem ListsExact.cancels {s : State} (h : ListsExact s) : OwedCancelsExact s := h.2.2.2

theorem ListsExact.not_mem_dispatchQueue {s : State} (h : ListsExact s) {t : Tag} (ht : (s.tag t).state ≠ .queued) :
    t ∉ s.dispatchQueue := fun hm => ht ((h.dispatch.2 t).mp hm)

theorem ListsExact.not_mem_orderList {s : State} (h : ListsExact s) {t : Tag} {v : UnitNo}
    (ht : ¬ ((s.tag t).unit = v ∧ (s.tag t).state.inOrderList = true)) : t ∉ (s.unit v).orderList := fun hm =>
  ht (((h.orders v).2 t).mp hm)

theorem ListsExact.cancelPending_false {s : State} (h : ListsExact s) {t : Tag} (ht : (s.tag t).state ≠ .cancelling) :
    (s.tag t).cancelPending = false := by
  cases hc : (s.tag t).cancelPending with
  | true =>
    obtain ⟨-, -, state⟩ := h.cancels
    exact absurd (state t hc) ht
  | false => rfl

theorem ListsExact.not_mem_owedCancels {s : State} (h : ListsExact s) {t : Tag} (ht : (s.tag t).state ≠ .cancelling) :
    t ∉ s.owedCancels := fun hm => by
  obtain ⟨-, mem, -⟩ := h.cancels
  have := (mem t).mp hm
  rw [h.cancelPending_false ht] at this
  cases this

/-! ## Departures -/

theorem queued_inOrderList {p : TagState} (h : p = .queued) : p.inOrderList = true := by rw [h]; rfl

theorem Fate.record_not_queued (f : Fate) (r : TagRecord) : (f.record r).state ≠ .queued := fun h => by
  have := queued_inOrderList h
  rw [f.inOrderList_record] at this
  cases this

/-- A fate keeps the lists exact, whichever tag it takes (R7, R14, R47, R48, R60). -/
theorem ListsExact.after_act {s : State} (h : ListsExact s) (f : Fate) (t : Tag) : ListsExact (f.act t s) := by
  obtain ⟨⟨hdn, hdm⟩, ho, hs, ⟨hcn, hcm, hcs⟩⟩ := h
  have mem (v : UnitNo) (x : Tag) :
      x ∈ ((f.act t s).unit v).orderList ↔ x ∈ (s.unit v).orderList ∧ x ≠ t := by
    rw [f.orderList_act]
    split
    · rw [List.mem_filter, decide_eq_true_eq]
    · next hv =>
      refine ⟨fun hx => ⟨hx, ?_⟩, And.left⟩
      rintro rfl
      exact hv (((ho v).2 x).mp hx).1.symm
  have sub (v : UnitNo) : ((f.act t s).unit v).orderList.Sublist (s.unit v).orderList := by
    rw [f.orderList_act]
    split
    · exact List.filter_sublist
    · exact .refl _
  refine ⟨⟨?_, fun x => ?_⟩, fun v => ⟨(ho v).1.sublist (sub v), fun x => ?_⟩, fun v => ?_, ?_, fun x => ?_, fun x => ?_⟩
  · rw [f.dispatchQueue_act]
    exact hdn.filter _
  · rw [f.dispatchQueue_act, List.mem_filter, decide_eq_true_eq, hdm, f.tag_act]
    by_cases hx : x = t
    · simp [hx, f.record_not_queued]
    · simp [hx]
  · rw [mem, (ho v).2, f.tag_act]
    by_cases hx : x = t
    · simp [hx]
    · simp [hx]
  · refine ((hs v).sublist (sub v)).imp_of_mem fun {a b} ha hb hab => ?_
    rw [f.tag_act, if_neg ((mem v a).mp ha).2, f.tag_act, if_neg ((mem v b).mp hb).2]
    exact hab
  · rw [f.owedCancels_act]
    exact hcn.filter _
  · rw [f.owedCancels_act, List.mem_filter, decide_eq_true_eq, hcm, f.tag_act]
    by_cases hx : x = t
    · simp [hx]
    · simp [hx]
  · rw [f.tag_act]
    by_cases hx : x = t
    · simp [hx]
    · rw [if_neg hx]
      exact hcs x

/-- The release of MARKs keeps the lists exact. -/
theorem ListsExact.after_releaseMarks {s : State} (h : ListsExact s) (u : UnitNo) : ListsExact (releaseMarks u s) :=
  foldl_preserves ListsExact _ (fun _ t h => h.after_act (.complete markEnding) t) _ s h

theorem ListsExact.after_depart {s : State} (h : ListsExact s) (f : Fate) (t : Tag) : ListsExact (f.depart t s) :=
  (h.after_act f t).after_releaseMarks _

/-- Credits and touches of a tag's data are no matter of the lists. -/
theorem ListsExact.after_creditFor {s : State} (h : ListsExact s) (f : Fate) (t : Tag) : ListsExact (creditFor f t s) := by
  refine h.of_same ?_ ?_ (fun v => ?_) fun x => ?_
  · rw [creditFor_eq]
  · rw [creditFor_eq]
  · rw [(unit_creditFor f t v s).1]
  · rw [tag_creditFor]
    exact .refl _

theorem Touches.sameStanding {t : Tag} {s s' : State} (h : Touches t s s') (x : Tag) :
    SameStanding (s.tag x) (s'.tag x) := by
  by_cases hx : x = t
  · rw [hx, h.own]
    exact ⟨rfl, rfl, .inl rfl⟩
  · rw [h.others x hx]
    exact .refl _

theorem ListsExact.touched {t : Tag} {s s' : State} (h : ListsExact s) (touch : Touches t s s') : ListsExact s' := by
  refine h.of_same ?_ ?_ (fun v => by rw [touch.unit]) touch.sameStanding
  · rw [touch.frame]
  · rw [touch.frame]

theorem ListsExact.after_settleTag {s : State} (h : ListsExact s) (outcome : TxOutcome) (reason : PostedReason) (t : Tag) :
    ListsExact (settleTag outcome reason t s) := by
  obtain ⟨-, e⟩ | ⟨-, e⟩ | ⟨-, e⟩ | ⟨-, -, e⟩ | ⟨-, -, e⟩ := settleTag_cases outcome reason t s <;> rw [e]
  · exact h
  · refine h.of_same rfl rfl (fun _ => rfl) fun x => ?_
    rw [tag_updTag]
    split
    · next hx => rw [hx]; exact ⟨rfl, rfl, .inl rfl⟩
    · exact .refl _
  · exact h.after_act _ t
  · exact ListsExact.after_act (s := reportPosted t reason s) h _ t
  · exact h.after_act _ t

theorem ListsExact.after_settleAllTags {s : State} (h : ListsExact s) : ListsExact (settleAllTags s) :=
  foldl_preserves ListsExact _ (fun _ t h => h.after_settleTag _ _ t) _ s h

theorem ListsExact.after_settleUnitTags {s : State} (h : ListsExact s) (u : UnitNo) : ListsExact (settleUnitTags u s) :=
  foldl_preserves ListsExact _ (fun s' t h => by
    split
    · exact h.after_settleTag _ _ t
    · exact h) _ s h

theorem settledRecord_not_live (outcome : TxOutcome) (r : TagRecord) :
    (settledRecord outcome r).state.inOrderList = false := by
  cases h : (settledRecord outcome r).state.inOrderList with
  | true => exact ((settledRecord_quiet outcome r).not_live h).elim
  | false => rfl

/-- Once all tags of a unit are settled its order list is empty. -/
theorem ListsExact.orderList_settleUnitTags {s : State} (h : ListsExact s) (u : UnitNo) :
    ((settleUnitTags u s).unit u).orderList = [] := by
  have hl := (h.after_settleUnitTags u).orders u
  refine List.eq_nil_iff_forall_not_mem.mpr fun x hx => ?_
  obtain ⟨hu, hs⟩ := (hl.2 x).mp hx
  rw [tag_settleUnitTags] at hu hs
  split at hs
  · rw [settledRecord_not_live] at hs
    cases hs
  · next hne =>
    rw [if_neg hne] at hu
    exact hne hu

/-- Once every tag is settled nothing is left in the lists. -/
theorem ListsExact.lists_settleAllTags {s : State} (h : ListsExact s) :
    (settleAllTags s).dispatchQueue = [] ∧ (settleAllTags s).owedCancels = []
      ∧ ∀ v, ((settleAllTags s).unit v).orderList = [] := by
  have hl := h.after_settleAllTags
  have dead (x : Tag) : ((settleAllTags s).tag x).state.inOrderList = false := by
    rw [tag_settleAllTags]
    exact settledRecord_not_live _ _
  refine ⟨List.eq_nil_iff_forall_not_mem.mpr fun x => hl.not_mem_dispatchQueue fun e => ?_,
    List.eq_nil_iff_forall_not_mem.mpr fun x => hl.not_mem_owedCancels fun e => ?_,
    fun v => List.eq_nil_iff_forall_not_mem.mpr fun x => hl.not_mem_orderList fun e => ?_⟩
  · have := dead x
    rw [e] at this
    cases this
  · have := dead x
    rw [e] at this
    cases this
  · have := dead x
    rw [e.2] at this
    cases this

/-! ## Arrivals -/

/-- A tag that stood in no list takes its place at the tail of its unit's order list, and of the dispatch queue where it is
QUEUED (R34, R47, R48). -/
theorem ListsExact.enlisted {s s' : State} {t : Tag} (h : ListsExact s) (absent : (s.tag t).state = .free)
    (tags : ∀ x, x ≠ t → s'.tag x = s.tag x) (pending : (s'.tag t).cancelPending = false)
    (place : ((s'.tag t).state = .queued ∧ s'.dispatchQueue = s.dispatchQueue ++ [t])
      ∨ ((s'.tag t).state = .waiting ∧ s'.dispatchQueue = s.dispatchQueue))
    (cancels : s'.owedCancels = s.owedCancels)
    (lists : ∀ v, (s'.unit v).orderList
      = if v = (s'.tag t).unit then (s.unit v).orderList ++ [t] else (s.unit v).orderList) : ListsExact s' := by
  have hd : t ∉ s.dispatchQueue := h.not_mem_dispatchQueue (by simp [absent])
  have ho (v : UnitNo) : t ∉ (s.unit v).orderList := h.not_mem_orderList (by simp [absent, TagState.inOrderList])
  have hp := h.cancelPending_false (t := t) (by simp [absent])
  have live : (s'.tag t).state.inOrderList = true := by
    obtain ⟨e, -⟩ | ⟨e, -⟩ := place <;> rw [e] <;> rfl
  obtain ⟨⟨hdn, hdm⟩, hol, hs, ⟨hcn, hcm, hcs⟩⟩ := h
  have standing (v : UnitNo) {x : Tag} (hx : x ∈ (s.unit v).orderList) : s'.tag x = s.tag x :=
    tags x fun e => ho v (e ▸ hx)
  refine ⟨?_, fun v => ⟨?_, fun x => ?_⟩, fun v => ?_, cancels ▸ hcn, fun x => ?_, fun x => ?_⟩
  · obtain ⟨e, eq⟩ | ⟨e, eq⟩ := place
    · refine ⟨eq ▸ List.nodup_append_comm.mp (by simpa using ⟨hd, hdn⟩), fun x => ?_⟩
      rw [eq, List.mem_append, List.mem_singleton, hdm]
      by_cases hx : x = t
      · simp [hx, e]
      · simp [hx, tags x hx]
    · refine ⟨eq ▸ hdn, fun x => ?_⟩
      rw [eq, hdm]
      by_cases hx : x = t
      · simp [hx, e, absent]
      · rw [tags x hx]
  · rw [lists]
    split
    · exact List.nodup_append_comm.mp (by simpa using ⟨ho v, (hol v).1⟩)
    · exact (hol v).1
  · rw [lists]
    by_cases hx : x = t
    · subst hx
      by_cases hv : v = (s'.tag x).unit
      · simp [← hv, live]
      · simp [hv, ho v, Ne.symm hv]
    · rw [tags x hx, ← (hol v).2 x]
      split <;> simp [hx]
  · have before : (s.unit v).orderList.Pairwise
        (fun a b => ¬ ((s'.tag a).state.unsent = true ∧ (s'.tag b).state.inFlight = true)) :=
      (hs v).imp_of_mem fun ha hb hab => by rwa [standing v ha, standing v hb]
    rw [lists]
    split
    · refine List.pairwise_append.mpr ⟨before, List.pairwise_singleton _ _, fun a _ b hb => ?_⟩
      rw [List.mem_singleton.mp hb]
      obtain ⟨e, -⟩ | ⟨e, -⟩ := place <;> simp [e, TagState.inFlight]
    · exact before
  · rw [cancels, hcm]
    by_cases hx : x = t
    · rw [hx, hp, pending]
    · rw [tags x hx]
  · intro hx
    by_cases hxt : x = t
    · rw [hxt, pending] at hx
      cases hx
    · rw [tags x hxt] at hx ⊢
      exact hcs x hx

/-- A QUEUED tag that stands in no list yet: the others and the lists are those of a state whose lists are exact. -/
structure Fresh (t : Tag) (s w : State) : Prop where
  state : (w.tag t).state = .queued
  pending : (w.tag t).cancelPending = false
  others : ∀ x, x ≠ t → w.tag x = s.tag x
  units : ∀ v, w.unit v = s.unit v
  dispatchQueue : w.dispatchQueue = s.dispatchQueue
  owedCancels : w.owedCancels = s.owedCancels

theorem fresh_fillTag (t : Tag) (k : Kind) (s : State) : Fresh t s (fillTag t k s) where
  state := by
    rw [tag_fillTag, if_pos rfl]
    rfl
  pending := by
    rw [tag_fillTag, if_pos rfl]
    rfl
  others x hx := by rw [tag_fillTag, if_neg hx]
  units _ := rfl
  dispatchQueue := rfl
  owedCancels := rfl

theorem Fresh.tag_completeTag {s w : State} {t : Tag} (fresh : Fresh t s w) (x : Tag) :
    (completeTag t markEnding w).tag x = if x = t then completedRecord markEnding (w.tag t) else s.tag x := by
  rw [Machine.tag_completeTag]
  split
  · rfl
  · next hx => exact fresh.others x hx

/-- A tag that was in no list and enters COMPLETE leaves the order lists as they are. -/
theorem Fresh.orderList_completeTag {s w : State} {t : Tag} (fresh : Fresh t s w) (h : ListsExact s)
    (absent : (s.tag t).state = .free) (v : UnitNo) :
    ((completeTag t markEnding w).unit v).orderList = (s.unit v).orderList := by
  rw [unit_completeTag, unit_leaveLists, fresh.units]
  split
  · exact filter_ne_of_not_mem (h.not_mem_orderList (by simp [absent, TagState.inOrderList]))
  · rfl

/-- A tag that was in no list and enters COMPLETE leaves the lists as they are. -/
theorem ListsExact.completed {s w : State} {t : Tag} (h : ListsExact s) (absent : (s.tag t).state = .free)
    (fresh : Fresh t s w) : ListsExact (completeTag t markEnding w) := by
  have tag := fresh.tag_completeTag
  have lists := fresh.orderList_completeTag h absent
  have state (x : Tag) : ((completeTag t markEnding w).tag x).state = (s.tag x).state
      ∨ (x = t ∧ ((completeTag t markEnding w).tag x).state = .complete) := by
    rw [tag]
    split
    · next hx => exact .inr ⟨hx, rfl⟩
    · exact .inl rfl
  refine ⟨h.dispatch.of_same ?_ fun x => ?_, h.orders.of_same lists fun x v => ?_, h.sentFirst.of_same lists fun x => ?_,
    h.cancels.of_same ?_ fun x => ?_⟩
  · rw [completeTag_eq, ← fresh.dispatchQueue]
    exact filter_ne_of_not_mem (fresh.dispatchQueue ▸ h.not_mem_dispatchQueue (by simp [absent]))
  · obtain e | ⟨rfl, e⟩ := state x <;> rw [e]
    simp [absent]
  · rw [tag]
    by_cases hx : x = t
    · simp [hx, absent, completedRecord, TagState.inOrderList]
    · rw [if_neg hx]
  · obtain e | ⟨rfl, e⟩ := state x <;> rw [e]
    · exact ⟨id, id⟩
    · exact ⟨nofun, nofun⟩
  · rw [completeTag_eq, ← fresh.owedCancels]
    exact filter_ne_of_not_mem (fresh.owedCancels ▸ h.not_mem_owedCancels (by simp [absent]))
  · rw [tag]
    by_cases hx : x = t
    · rw [if_pos hx, hx, h.cancelPending_false (t := t) (by simp [absent])]
      exact ⟨rfl, nofun⟩
    · rw [if_neg hx]
      exact ⟨rfl, fun _ => id⟩

/-- A unit's order list with one more tag at its tail. -/
theorem orderList_updUnit_append (u v : UnitNo) (t : Tag) (s : State) :
    ((updUnit u (fun r => { r with orderList := r.orderList ++ [t] }) s).unit v).orderList
      = if v = u then (s.unit v).orderList ++ [t] else (s.unit v).orderList := by
  rw [unit_updUnit]
  split
  · next hv => rw [hv]
  · rfl

theorem ListsExact.placed {s w : State} {t : Tag} (h : ListsExact s) (absent : (s.tag t).state = .free)
    (fresh : Fresh t s w) (k : Kind) : ListsExact (placeTag t k w) := by
  obtain ⟨-, e⟩ | ⟨-, -, e⟩ | ⟨-, -, e⟩ := placeTag_cases t k w <;> rw [e]
  · refine h.enlisted absent fresh.others fresh.pending (.inl ⟨fresh.state, ?_⟩) fresh.owedCancels fun v => ?_
    · rw [← fresh.dispatchQueue]
    · rw [← fresh.units]
      exact orderList_updUnit_append _ v t w
  · exact h.completed absent fresh
  · have own := tag_updTag_self t (fun r => { r with state := .waiting }) w
    refine h.enlisted (t := t) absent (fun x hx => ?_) ?_ (.inr ⟨?_, fresh.dispatchQueue⟩) fresh.owedCancels fun v => ?_
    · rw [updUnit_tag, tag_updTag_of_ne hx, fresh.others x hx]
    · rw [updUnit_tag, own]
      exact fresh.pending
    · rw [updUnit_tag, own]
    · rw [updUnit_tag, own, ← fresh.units]
      exact orderList_updUnit_append _ v t _

/-! ## Sending -/

/-- A list with an element that stands in it: those before it are its front. -/
theorem takeWhile_ne_append_cons {l1 l2 : List Tag} {t : Tag} (h : t ∉ l1) :
    (l1 ++ t :: l2).takeWhile (fun x => decide (x ≠ t)) = l1 := by
  have h1 : ∀ x ∈ l1, decide (x ≠ t) = true := fun x hx => decide_eq_true fun e : x = t => h (e ▸ hx)
  rw [List.takeWhile_append_of_pos h1, List.takeWhile_cons_of_neg (by simp), List.append_nil]

theorem ListsExact.requested {s : State} {t : Tag} (h : ListsExact s) (he : Eligible t s) :
    ListsExact (sendRequest t s) := by
  obtain ⟨queued, ahead, -⟩ := he
  have pending := h.cancelPending_false (t := t) (by simp [queued])
  obtain ⟨⟨hdn, hdm⟩, hol, hs, hc⟩ := h
  have lists (v : UnitNo) : ((sendRequest t s).unit v).orderList = (s.unit v).orderList := by
    rw [unit_sendRequest]
    split <;> rfl
  have sent : ((sendRequest t s).tag t).state = .posted ∨ ((sendRequest t s).tag t).state = .sent := by
    rw [tag_sendRequest, if_pos rfl]
    simp only
    split <;> simp
  have other {x : Tag} (hx : x ≠ t) : (sendRequest t s).tag x = s.tag x := by rw [tag_sendRequest, if_neg hx]
  have unit : ((sendRequest t s).tag t).unit = (s.tag t).unit := by rw [tag_sendRequest, if_pos rfl]
  refine ⟨⟨hdn.filter _, fun x => ?_⟩, hol.of_same lists fun x v => ?_, fun v => ?_, hc.of_same rfl fun x => ?_⟩
  · change x ∈ s.dispatchQueue.filter (fun x => x ≠ t) ↔ _
    rw [List.mem_filter, decide_eq_true_eq, hdm]
    by_cases hx : x = t
    · obtain e | e := sent <;> simp [hx, e]
    · simp [hx, other hx]
  · by_cases hx : x = t
    · obtain e | e := sent <;> simp [hx, e, unit, queued, TagState.inOrderList]
    · rw [other hx]
  · rw [lists]
    have unaffected {l : List Tag} (hl : l.Pairwise
        (fun a b => ¬ ((s.tag a).state.unsent = true ∧ (s.tag b).state.inFlight = true))) (ht : t ∉ l) :
        l.Pairwise (fun a b =>
          ¬ (((sendRequest t s).tag a).state.unsent = true ∧ ((sendRequest t s).tag b).state.inFlight = true)) :=
      hl.imp_of_mem fun {a b} ha hb hab => by
        rwa [other fun e : a = t => ht (e ▸ ha), other fun e : b = t => ht (e ▸ hb)]
    by_cases ht : t ∈ (s.unit v).orderList
    · obtain ⟨hu, -⟩ := ((hol v).2 t).mp ht
      subst hu
      obtain ⟨l1, l2, hl⟩ := List.append_of_mem ht
      have hd := (hol (s.tag t).unit).1
      have hp := hs (s.tag t).unit
      rw [hl] at hd hp ahead ⊢
      have h1 : t ∉ l1 := fun e => (List.nodup_append.mp hd).2.2 t e t List.mem_cons_self rfl
      have h2 : t ∉ l2 := (List.nodup_cons.mp (List.nodup_append.mp hd).2.1).1
      rw [takeWhile_ne_append_cons h1] at ahead
      obtain ⟨hp1, hp2, hp12⟩ := List.pairwise_append.mp hp
      have flight {x : Tag} (hx : x ∈ l1) : ((sendRequest t s).tag x).state.unsent = false := by
        rw [other fun e : x = t => h1 (e ▸ hx)]
        have := ahead x hx
        cases hs : (s.tag x).state <;> simp_all [TagState.inFlight, TagState.unsent]
      refine List.pairwise_append.mpr ⟨unaffected hp1 h1,
        List.pairwise_cons.mpr ⟨fun b _ => ?_, unaffected (List.pairwise_cons.mp hp2).2 h2⟩, fun a ha b _ => ?_⟩
      · obtain e | e := sent <;> simp [e, TagState.unsent]
      · simp [flight ha]
    · exact unaffected (hs v) ht
  · by_cases hx : x = t
    · subst hx
      rw [tag_sendRequest, if_pos rfl, pending]
      exact ⟨rfl, nofun⟩
    · rw [other hx]
      exact ⟨rfl, fun _ => id⟩

theorem ListsExact.cancelSent {s : State} {t : Tag} {rest : List Tag} (h : ListsExact s)
    (head : s.owedCancels = t :: rest) : ListsExact (sendCancel t rest s) := by
  obtain ⟨hd, hol, hs, ⟨hcn, hcm, hcs⟩⟩ := h
  rw [head] at hcn hcm
  obtain ⟨htn, hrn⟩ := List.nodup_cons.mp hcn
  have state (x : Tag) : ((sendCancel t rest s).tag x).state = (s.tag x).state
      ∧ ((sendCancel t rest s).tag x).unit = (s.tag x).unit := by
    rw [tag_sendCancel]
    split
    · next hx => rw [hx]; exact ⟨rfl, rfl⟩
    · exact ⟨rfl, rfl⟩
  refine ⟨hd.of_same rfl fun x => by rw [(state x).1], hol.of_same (fun _ => rfl) fun x v => by rw [(state x).1, (state x).2],
    hs.of_same (fun _ => rfl) fun x => by rw [(state x).1]; exact ⟨id, id⟩, hrn, fun x => ?_, fun x hx => ?_⟩
  · change x ∈ rest ↔ _
    rw [tag_sendCancel]
    by_cases hx : x = t
    · simp [hx, htn]
    · rw [if_neg hx, ← hcm]
      simp [hx]
  · rw [(state x).1]
    rw [tag_sendCancel] at hx
    split at hx
    · cases hx
    · exact hcs x hx

theorem ListsExact.cancelling {s : State} {t : Tag} (h : ListsExact s) (cause : CancelCause)
    (state : (s.tag t).state = .sent ∨ (s.tag t).state = .receiving ∨ (s.tag t).state = .posted) :
    ListsExact (enterCancelling cause t s) := by
  have absent : t ∉ s.owedCancels := h.not_mem_owedCancels (by obtain e | e | e := state <;> simp [e])
  obtain ⟨hd, hol, hs, ⟨hcn, hcm, hcs⟩⟩ := h
  refine ⟨hd.of_same rfl fun x => ?_, hol.of_same (fun _ => rfl) fun x v => ?_, hs.of_same (fun _ => rfl) fun x => ?_, ?_,
    fun x => ?_, fun x hx => ?_⟩
  · rw [tag_enterCancelling]
    by_cases hx : x = t
    · obtain e | e | e := state <;> simp [hx, e]
    · rw [if_neg hx]
  · rw [tag_enterCancelling]
    by_cases hx : x = t
    · obtain e | e | e := state <;> simp [hx, e, TagState.inOrderList]
    · rw [if_neg hx]
  · rw [tag_enterCancelling]
    by_cases hx : x = t
    · obtain e | e | e := state <;> simp [hx, e, TagState.unsent, TagState.inFlight]
    · rw [if_neg hx]
      exact ⟨id, id⟩
  · rw [enterCancelling_eq]
    exact List.nodup_append_comm.mp (by simpa using ⟨absent, hcn⟩)
  · rw [tag_enterCancelling]
    change x ∈ s.owedCancels ++ [t] ↔ _
    by_cases hx : x = t
    · simp [hx]
    · simp [hx, hcm]
  · rw [tag_enterCancelling] at hx ⊢
    split at hx
    · next e => rw [if_pos e]
    · next e =>
      rw [if_neg e]
      exact hcs x hx

/-! ## Every event -/

theorem Aside.sameStanding {s s' : State} (h : Aside s s') (x : Tag) : SameStanding (s.tag x) (s'.tag x) := by
  rw [h.tag]
  exact .refl _

theorem ListsExact.aside {s s' : State} (ha : Aside s s') (h : ListsExact s) : ListsExact s' :=
  h.of_same ha.dispatchQueue ha.owedCancels ha.orderList ha.sameStanding

/-- An update of one tag's record that the lists do not ask for. -/
theorem ListsExact.after_updTag {s : State} (h : ListsExact s) {t : Tag} {f : TagRecord → TagRecord}
    (hf : SameStanding (s.tag t) (f (s.tag t))) : ListsExact (updTag t f s) := by
  refine h.of_same rfl rfl (fun _ => rfl) fun x => ?_
  rw [tag_updTag]
  split
  · next hx => rw [hx]; exact hf
  · exact .refl _

theorem orderList_returnCredit (u v : UnitNo) (s : State) :
    ((returnCredit u s).unit v).orderList = (s.unit v).orderList :=
  unit_updUnit_proj UnitRecord.orderList u v _ s rfl

theorem goneUnit_orderList (r : UnitRecord) : (goneUnit r).orderList = [] := rfl

theorem lostUnit_orderList (r : UnitRecord) : (lostUnit r).orderList = [] := rfl

theorem ListsExact.event {c : Instr} {s s' : State} (he : TagEvent c s s') (h : ListsExact s) : ListsExact s' := by
  cases he with
  | still => exact h
  | submitted check kind lowest => exact h.placed (free_of_lowestFreeTag lowest) (fresh_fillTag _ _ s) _
  | @popped r rest queue command => exact ListsExact.after_updTag (s := { s with results := rest }) h ⟨rfl, rfl, .inl rfl⟩
  | released complete popped => exact h.after_act _ _
  | touched live touch => exact h.touched touch
  | @segment s' t state posted touch =>
    refine (h.touched touch).after_updTag ⟨rfl, rfl, ?_⟩
    simp only [segmentRecord]
    split
    · next e => exact .inr ⟨e, rfl⟩
    · exact .inl rfl
  | cancelling cause state => exact h.cancelling cause state
  | departed live touch fits => exact ((h.touched touch).after_creditFor _ _).after_depart _ _
  | @freed t orphaned =>
    have hc : ListsExact (returnCredit (s.tag t).unit s) :=
      h.of_same rfl rfl (fun v => orderList_returnCredit _ v s) fun x => .refl _
    exact hc.after_act _ t
  | @paid t complete owed =>
    have hc : ListsExact (returnCredit (s.tag t).unit s) :=
      h.of_same rfl rfl (fun v => orderList_returnCredit _ v s) fun x => .refl _
    exact hc.after_updTag ⟨rfl, rfl, .inl rfl⟩
  | requested choice => exact h.requested (eligible_of_dispatchChoice choice)
  | cancelSent head => exact h.cancelSent head
  | @reported u spaces classCode limit maxBlock session accepted =>
    refine h.of_same rfl rfl (fun v => ?_) fun x => .refl _
    exact unit_updUnit_proj UnitRecord.orderList u v _ s rfl
  | @unitGone u present =>
    have hl := h.after_settleUnitTags u
    have hn := h.orderList_settleUnitTags u
    generalize settleUnitTags u s = w at hl hn ⊢
    refine hl.of_same rfl rfl (fun v => ?_) fun x => .refl _
    rw [unit_updUnit_gone]
    split
    · next hv => rw [hv, hn, goneUnit_orderList]
    · rfl
  | linkLost reason =>
    have hl := h.after_settleAllTags
    obtain ⟨hd, hc, ho⟩ := h.lists_settleAllTags
    refine hl.of_same (by rw [dispatchQueue_linkLoss, hd]) (by rw [owedCancels_linkLoss, hc]) (fun v => ?_) fun x => ?_
    · rw [unit_linkLoss, ho]
      exact lostUnit_orderList _
    · rw [tag_linkLoss, tag_settleAllTags]
      exact .refl _
  | reset command after =>
    have lists (v : UnitNo) : (s'.unit v).orderList = [] := by rw [after.units]
    refine ⟨⟨?_, fun x => ?_⟩, fun v => ⟨?_, fun x => ?_⟩, fun v => ?_, ?_, fun x => ?_, fun x => ?_⟩
    · simp [after.dispatchQueue]
    · simp [after.dispatchQueue, after.tag]
    · simp [lists]
    · simp [lists, after.tag, TagState.inOrderList]
    · simp [lists]
    · simp [after.owedCancels]
    · simp [after.owedCancels, after.tag]
    · simp [after.tag]

end Sys2Proof.Machine
end


section
/-! SUPPORT. The states that posted tags and MARKs may have, and the timers of the tags (O55). -/

namespace Sys2Proof.Machine

/-- What StatesSound asks of one record (R2, R14, R54). -/
structure TagRecord.StateSound (r : TagRecord) : Prop where
  postedStates : r.posted = true →
    r.state = .queued ∨ r.state = .posted ∨ r.state = .cancelling ∨ r.state = .orphaned
  posted : r.state = .posted → r.posted = true
  far : r.farReplyPending = true → r.state = .complete
  postedKind : r.posted = true → r.kind.mayBePosted = true
  waiting : r.state = .waiting → r.kind = .mark
  mark : r.kind = .mark → (r.state = .waiting ∨ r.state = .complete) ∧ r.farReplyPending = false

theorem statesSound_iff (s : State) : StatesSound s ↔ ∀ x, (s.tag x).StateSound :=
  ⟨fun h x => have ⟨h1, h2, h3, h4, h5, h6⟩ := h x; ⟨h1, h2, h3, h4, h5, h6⟩,
    fun h x => have ⟨h1, h2, h3, h4, h5, h6⟩ := h x; ⟨h1, h2, h3, h4, h5, h6⟩⟩

/-- What TagTimersSound asks of one record (R72, R74). -/
def TagRecord.TimerSound (r : TagRecord) : Prop :=
  match r.timer with
  | .idle => True
  | .reply T => T ≠ 0 ∧ (r.state = .sent ∨ r.state = .receiving ∨ r.state = .posted)
  | .cancel T => T ≠ 0 ∧ r.state = .cancelling ∧ r.cancelPending = false

/-- What O55 asks of one record. -/
structure TagRecord.Sound (r : TagRecord) : Prop where
  state : r.StateSound
  timer : r.TimerSound

theorem timerSound_of_idle {r : TagRecord} (h : r.timer = .idle) : r.TimerSound := by
  unfold TagRecord.TimerSound
  rw [h]
  trivial

theorem timerSound_reply {r : TagRecord} {timeout : Halfword} (ht : r.timer = startedReplyTimer timeout)
    (hs : r.state = .sent ∨ r.state = .receiving ∨ r.state = .posted) : r.TimerSound := by
  unfold TagRecord.TimerSound
  by_cases h : timeout = 0
  · rw [ht, startedReplyTimer, if_pos h]
    trivial
  · rw [ht, startedReplyTimer, if_neg h]
    exact ⟨h, hs⟩

theorem timerSound_cancel {r : TagRecord} {timeout : Halfword} (ht : r.timer = startedCancelTimer timeout)
    (hs : r.state = .cancelling) (hp : r.cancelPending = false) : r.TimerSound := by
  unfold TagRecord.TimerSound
  by_cases h : timeout = 0
  · rw [ht, startedCancelTimer, if_pos h]
    trivial
  · rw [ht, startedCancelTimer, if_neg h]
    exact ⟨h, hs, hp⟩

theorem blank_sound : TagRecord.Sound {} := ⟨⟨nofun, nofun, nofun, nofun, nofun, nofun⟩, trivial⟩

/-- A completed record is sound where the tag was not posted, and a MARK owes no reply. -/
theorem completedRecord_sound {r : TagRecord} {e : Ending} (posted : r.posted = false)
    (mark : r.kind = .mark → e.owed = false) : (completedRecord e r).Sound := by
  refine ⟨⟨fun h => ?_, nofun, fun _ => rfl, fun h => ?_, nofun, fun h => ⟨.inr rfl, mark h⟩⟩, trivial⟩
  all_goals
    rw [show (completedRecord e r).posted = r.posted from rfl, posted] at h
    cases h

/-- A MARK is never in flight. -/
theorem TagRecord.StateSound.mark_not_inFlight {r : TagRecord} (h : r.StateSound) (hk : r.kind = .mark)
    (hf : r.state.inFlight = true) : False := by
  obtain ⟨e | e, -⟩ := h.mark hk <;> rw [e] at hf <;> cases hf

/-- A tag in flight owes no late reply yet. -/
theorem TagRecord.StateSound.far_false {r : TagRecord} (h : r.StateSound) (hs : r.state ≠ .complete) :
    r.farReplyPending = false := by
  cases hf : r.farReplyPending with
  | true => exact absurd (h.far hf) hs
  | false => rfl

/-- A fate leaves a sound record. -/
theorem TagRecord.Sound.fate {r : TagRecord} (h : r.Sound) {f : Fate} (fits : f.Fits r) : (f.record r).Sound := by
  cases f with
  | complete e =>
    obtain ⟨posted, owed, -⟩ := fits
    refine completedRecord_sound posted fun hk => ?_
    cases he : e.owed with
    | true => exact (h.state.mark_not_inFlight hk (owed he)).elim
    | false => rfl
  | free => exact blank_sound
  | orphan =>
    obtain ⟨posted, flight⟩ := fits
    exact ⟨⟨fun _ => .inr (.inr (.inr rfl)), nofun, nofun, h.state.postedKind, nofun,
      fun hk => (h.state.mark_not_inFlight hk flight).elim⟩, trivial⟩

/-- A COMPLETE tag that is released while a reply is owed is no MARK. -/
theorem TagRecord.Sound.orphaned {r : TagRecord} (h : r.Sound) (far : r.farReplyPending = true) :
    (Fate.orphan.record r).Sound := by
  refine ⟨⟨fun _ => .inr (.inr (.inr rfl)), nofun, nofun, h.state.postedKind, nofun, fun hk => ?_⟩, trivial⟩
  have := (h.state.mark hk).2
  rw [far] at this
  cases this

/-- The end of a debt leaves a sound record. -/
theorem TagRecord.Sound.paid {r : TagRecord} (h : r.Sound) : TagRecord.Sound { r with farReplyPending := false } :=
  ⟨⟨h.state.postedStates, h.state.posted, nofun, h.state.postedKind, h.state.waiting,
    fun hk => ⟨(h.state.mark hk).1, rfl⟩⟩, h.timer⟩

/-- A settlement leaves a sound record. -/
theorem TagRecord.Sound.settled {r : TagRecord} (h : r.Sound) (outcome : TxOutcome) : (settledRecord outcome r).Sound := by
  have live (e : Ending) (he : e.owed = false) :
      TagRecord.Sound (if r.posted = true then {} else completedRecord e r : TagRecord) := by
    split
    · exact blank_sound
    · next hp => exact completedRecord_sound (by simpa using hp) fun _ => he
  unfold settledRecord
  split
  case h_1 => exact h
  case h_2 => exact blank_sound
  case h_3 => exact h.paid
  all_goals exact live _ rfl

/-- What soundness asks of a record is the same of another that agrees with it in these fields. -/
theorem TagRecord.Sound.of_same {r r' : TagRecord} (h : r.Sound) (state : r'.state = r.state) (posted : r'.posted = r.posted)
    (far : r'.farReplyPending = r.farReplyPending) (kind : r'.kind = r.kind) (timer : r'.timer = r.timer)
    (pending : r'.cancelPending = r.cancelPending) : r'.Sound := by
  obtain ⟨⟨h1, h2, h3, h4, h5, h6⟩, ht⟩ := h
  refine ⟨⟨?_, ?_, ?_, ?_, ?_, ?_⟩, ?_⟩
  · rwa [state, posted]
  · rwa [state, posted]
  · rwa [state, far]
  · rwa [posted, kind]
  · rwa [state, kind]
  · rwa [state, kind, far]
  · unfold TagRecord.TimerSound at ht ⊢
    rwa [timer, state, pending]

theorem Touches.sound {t : Tag} {s s' : State} (h : Touches t s s') (hs : ∀ x, (s.tag x).Sound) (x : Tag) :
    (s'.tag x).Sound := by
  by_cases hx : x = t
  · rw [hx, h.own]
    exact (hs t).of_same rfl rfl rfl rfl rfl rfl
  · rw [h.others x hx]
    exact hs x

/-- A tag that enters CANCELLING, its CANCEL owed. -/
theorem TagRecord.Sound.cancelling {r r' : TagRecord} (h : r.Sound)
    (state : r.state = .sent ∨ r.state = .receiving ∨ r.state = .posted) (state' : r'.state = .cancelling)
    (posted : r'.posted = r.posted) (far : r'.farReplyPending = r.farReplyPending) (kind : r'.kind = r.kind)
    (timer : r'.timer = .idle) : r'.Sound := by
  have flight : r.state.inFlight = true := by obtain e | e | e := state <;> rw [e] <;> rfl
  have notComplete : r.state ≠ .complete := by obtain e | e | e := state <;> simp [e]
  refine ⟨⟨fun _ => .inr (.inr (.inl state')), ?_, fun hf => ?_, ?_, ?_, fun hk => ?_⟩, timerSound_of_idle timer⟩
  · simp [state']
  · rw [far, h.state.far_false notComplete] at hf
    cases hf
  · rw [posted, kind]
    exact h.state.postedKind
  · simp [state']
  · exact (h.state.mark_not_inFlight (kind ▸ hk) flight).elim

/-- An accepted segment's record. -/
theorem TagRecord.Sound.segment {r : TagRecord} (h : r.Sound) (posted : r.posted = false)
    (flight : r.state.inFlight = true) (timeout : Halfword) : (segmentRecord timeout r).Sound := by
  have notPosted : r.state ≠ .posted := fun e => by simp [h.state.posted e] at posted
  have state : (segmentRecord timeout r).state = r.state ∨ (r.state = .sent ∧ (segmentRecord timeout r).state = .receiving) := by
    unfold segmentRecord
    split
    · next e => exact .inr ⟨e, rfl⟩
    · exact .inl rfl
  have notComplete : r.state ≠ .complete := fun e => by rw [e] at flight; cases flight
  refine ⟨⟨fun hp => ?_, fun e => ?_, fun hf => ?_, h.state.postedKind, fun e => ?_,
    fun hk => (h.state.mark_not_inFlight hk flight).elim⟩, ?_⟩
  · rw [show (segmentRecord timeout r).posted = r.posted from rfl, posted] at hp
    cases hp
  · obtain e' | ⟨-, e'⟩ := state
    · exact absurd (e'.symm.trans e) notPosted
    · rw [e'] at e
      cases e
  · have := h.state.far_false notComplete
    rw [show (segmentRecord timeout r).farReplyPending = r.farReplyPending from rfl, this] at hf
    cases hf
  · obtain e' | ⟨-, e'⟩ := state
    · exact h.state.waiting (e'.symm.trans e)
    · rw [e'] at e
      cases e
  · have ht := h.timer
    unfold TagRecord.TimerSound at ht
    cases hr : r.timer with
    | idle =>
      refine timerSound_of_idle ?_
      simp [segmentRecord, hr, TagTimer.restart]
    | reply T =>
      rw [hr] at ht
      refine timerSound_reply (timeout := timeout) (by simp [segmentRecord, hr, TagTimer.restart, startedReplyTimer]) ?_
      obtain e' | ⟨-, e'⟩ := state
      · rw [e']
        exact ht.2
      · exact .inr (.inl e')
    | cancel T =>
      rw [hr] at ht
      refine timerSound_cancel (timeout := timeout) (by simp [segmentRecord, hr, TagTimer.restart, startedCancelTimer]) ?_ ht.2.2
      obtain e' | ⟨e, -⟩ := state
      · rw [e']
        exact ht.2.1
      · rw [ht.2.1] at e
        cases e

/-- A new tag's record (R3, R34). -/
theorem stagedRecord_sound {k : Kind} {s : State} (h : Admitted k s) (hk : k ≠ .mark) (chunks : List ChunkNo) :
    (stagedRecord k chunks s.staging).Sound :=
  ⟨⟨fun _ => .inl rfl, nofun, nofun, h.postedKind, nofun, fun e => absurd e hk⟩, trivial⟩

/-- Where one tag alone changes its record, what holds of that and held of every record holds of every record. -/
theorem forall_tag_of_one {P : TagRecord → Prop} {s s' : State} {t : Tag} (hs : ∀ x, P (s.tag x))
    (others : ∀ x, x ≠ t → s'.tag x = s.tag x) (own : P (s'.tag t)) (x : Tag) : P (s'.tag x) := by
  by_cases hx : x = t
  · rwa [hx]
  · rw [others x hx]
    exact hs x

/-- Every event of the tag table keeps the records sound. -/
theorem TagEvent.sound {c : Instr} {s s' : State} (he : TagEvent c s s') (hl : ListsExact s) (hs : ∀ x, (s.tag x).Sound) :
    ∀ x, (s'.tag x).Sound := by
  cases he with
  | still => exact hs
  | @submitted k t check kind lowest =>
    have adm := admitted_of_submitCheck check kind
    obtain ⟨chunks, hr⟩ : ∃ chunks, (fillTag t k s).tag t = stagedRecord k chunks s.staging :=
      ⟨_, by rw [tag_fillTag, if_pos rfl]⟩
    refine forall_tag_of_one (t := t) hs (fun x hx => by rw [tag_placeTag t x k _ hx, tag_fillTag, if_neg hx]) ?_
    have markPosted (hk : k = .mark) : s.staging.posted = false := by
      cases hp : s.staging.posted with
      | true =>
        have := adm.postedKind hp
        rw [hk] at this
        cases this
      | false => rfl
    obtain ⟨hk, e⟩ | ⟨hk, -, e⟩ | ⟨hk, -, e⟩ := placeTag_cases t k (fillTag t k s) <;> rw [e]
    · change ((fillTag t k s).tag t).Sound
      rw [hr]
      exact stagedRecord_sound adm hk chunks
    · rw [tag_completeTag, if_pos rfl, hr]
      exact completedRecord_sound (markPosted hk) fun _ => rfl
    · rw [updUnit_tag, tag_updTag_self, hr]
      refine ⟨⟨fun hp => ?_, nofun, nofun, adm.postedKind, fun _ => hk, fun _ => ⟨.inl rfl, rfl⟩⟩, trivial⟩
      have := markPosted hk
      rw [show s.staging.posted = true from hp] at this
      cases this
  | @popped r rest queue command =>
    refine forall_tag_of_one (t := r.tag) hs (fun x hx => tag_updTag_of_ne hx _ { s with results := rest }) ?_
    rw [tag_updTag_self]
    exact (hs r.tag).of_same rfl rfl rfl rfl rfl rfl
  | @released t complete popped =>
    refine forall_tag_of_one (t := t) hs (fun x hx => by rw [Fate.tag_act, if_neg hx]) ?_
    rw [Fate.tag_act, if_pos rfl]
    split
    · next far => exact (hs t).orphaned far
    · exact blank_sound
  | touched live touch => exact touch.sound hs
  | @segment s' t state posted touch =>
    have hs' := touch.sound hs
    refine forall_tag_of_one (t := t) hs' (fun x hx => tag_updTag_of_ne hx _ _) ?_
    rw [tag_updTag_self]
    exact (hs' t).segment (by rwa [touch.posted]) (by rwa [touch.state]) _
  | @cancelling t cause state =>
    refine forall_tag_of_one (t := t) hs (fun x hx => by rw [tag_enterCancelling, if_neg hx]) ?_
    rw [tag_enterCancelling, if_pos rfl]
    exact (hs t).cancelling state rfl rfl rfl rfl rfl
  | @departed s' t f live touch fits =>
    intro x
    have hs' := touch.sound hs
    obtain ⟨rfl, e⟩ | ⟨-, hw, e⟩ | ⟨-, e⟩ := state_depart f t x (creditFor f t s') <;> rw [e]
    · rw [tag_creditFor]
      exact (hs' x).fate fits
    · rw [tag_creditFor] at hw ⊢
      refine completedRecord_sound ?_ fun _ => rfl
      cases hp : (s'.tag x).posted with
      | true =>
        obtain e | e | e | e := (hs' x).state.postedStates hp <;> rw [hw] at e <;> cases e
      | false => rfl
    · rw [tag_creditFor]
      exact hs' x
  | @freed t orphaned =>
    refine forall_tag_of_one (t := t) hs (fun x hx => by rw [Fate.tag_act, if_neg hx]; rfl) ?_
    rw [Fate.tag_act, if_pos rfl]
    exact blank_sound
  | @paid t complete owed =>
    refine forall_tag_of_one (t := t) hs (fun x hx => by rw [tag_updTag_of_ne hx]; rfl) ?_
    rw [tag_updTag_self]
    exact (hs t).paid
  | @requested t choice =>
    obtain ⟨queued, -, -⟩ := eligible_of_dispatchChoice choice
    have h := (hs t).state
    refine forall_tag_of_one (t := t) hs (fun x hx => by rw [tag_sendRequest, if_neg hx]) ?_
    rw [tag_sendRequest, if_pos rfl]
    have notMark (hk : (s.tag t).kind = .mark) : False := by
      obtain ⟨e | e, -⟩ := h.mark hk <;> rw [queued] at e <;> cases e
    have far := h.far_false (by simp [queued])
    cases hp : (s.tag t).posted with
    | true =>
      refine ⟨⟨fun _ => .inr (.inl rfl), fun _ => hp, fun hf => ?_, fun _ => h.postedKind hp, nofun,
        fun hk => (notMark hk).elim⟩, timerSound_reply rfl (.inr (.inr rfl))⟩
      rw [far] at hf
      cases hf
    | false =>
      have notPosted {p : Prop} (e : (s.tag t).posted = true) : p := nomatch hp.symm.trans e
      refine ⟨⟨notPosted, nofun, fun hf => ?_, notPosted, nofun, fun hk => (notMark hk).elim⟩,
        timerSound_reply rfl (.inl rfl)⟩
      rw [far] at hf
      cases hf
  | @cancelSent t rest head =>
    obtain ⟨-, mem, states⟩ := hl.cancels
    have state : (s.tag t).state = .cancelling := states t ((mem t).mp (head ▸ List.mem_cons_self))
    obtain ⟨h1, h2, h3, h4, h5, h6⟩ := (hs t).state
    refine forall_tag_of_one (t := t) hs (fun x hx => by rw [tag_sendCancel, if_neg hx]) ?_
    rw [tag_sendCancel, if_pos rfl]
    exact ⟨⟨h1, h2, h3, h4, h5, h6⟩, timerSound_cancel rfl state rfl⟩
  | reported session accepted => exact hs
  | @unitGone u present =>
    intro x
    rw [updUnit_tag, tag_settleUnitTags]
    split
    · exact (hs x).settled _
    · exact hs x
  | linkLost reason =>
    intro x
    rw [tag_linkLoss]
    exact (hs x).settled _
  | reset command after =>
    intro x
    rw [after.tag]
    exact blank_sound

/-- Settles O55: every event of the tag table keeps each record sound and the lists exact, and asides change neither. -/
theorem keptTagStatesAndTimers : Obligations.KeptTagStatesAndTimers := by
  have h : KeptByStep (fun s => ListsExact s ∧ ∀ x, (s.tag x).Sound) :=
    keptByStep_of (fun ha ⟨hl, hs⟩ => ⟨hl.aside ha, fun x => by rw [ha.tag]; exact hs x⟩)
      fun he ⟨hl, hs⟩ => ⟨hl.event he, he.sound hl hs⟩
  intro s t ⟨hs, hl, ht⟩ step
  obtain ⟨hl', hs'⟩ := h s t ⟨hl, fun x => ⟨(statesSound_iff s).mp hs x, ht x⟩⟩ step
  exact ⟨(statesSound_iff t).mpr fun x => (hs' x).state, hl', fun x => (hs' x).timer⟩

end Sys2Proof.Machine
end


section
/-! SUPPORT. The result queue, the blank FREE records and the released MARKs through every event of the tag table (O54). -/

namespace Sys2Proof.Machine

/-! ## The result queue (R11) -/

/-- A tag's completion record is still in the result queue. -/
def TagRecord.Unpopped (r : TagRecord) : Prop := r.state = .complete ∧ r.popped = false

theorem resultQueueExact_iff (s : State) :
    ResultQueueExact s ↔ (s.results.map CompletionRecord.tag).Nodup
      ∧ ∀ x, x ∈ s.results.map CompletionRecord.tag ↔ (s.tag x).Unpopped := Iff.rfl

theorem ResultQueueExact.of_same {s s' : State} (h : ResultQueueExact s) (results : s'.results = s.results)
    (tags : ∀ x, (s'.tag x).Unpopped ↔ (s.tag x).Unpopped) : ResultQueueExact s' := by
  obtain ⟨hd, hm⟩ := h
  exact ⟨results ▸ hd, fun x => by rw [results, hm]; exact (tags x).symm⟩

theorem not_unpopped_of_state {r : TagRecord} {p : TagState} (h : r.state = p) (hp : p ≠ .complete) : ¬ r.Unpopped :=
  fun hu => hp (h.symm.trans hu.1)

theorem map_tag_own (f : Fate) (t : Tag) (r : TagRecord) :
    (f.own t r).map CompletionRecord.tag = [] ∧ ¬ (f.record r).Unpopped
      ∨ (f.own t r).map CompletionRecord.tag = [t] ∧ (f.record r).Unpopped := by
  cases f with
  | complete e => exact .inr ⟨rfl, rfl, rfl⟩
  | free => exact .inl ⟨rfl, not_unpopped_of_state (p := .free) rfl (by decide)⟩
  | orphan => exact .inl ⟨rfl, not_unpopped_of_state (p := .orphaned) rfl (by decide)⟩

/-- A fate of a tag with no record in the result queue keeps the queue exact. -/
theorem ResultQueueExact.after_act {s : State} (h : ResultQueueExact s) (f : Fate) {t : Tag} (ht : ¬ (s.tag t).Unpopped) :
    ResultQueueExact (f.act t s) := by
  obtain ⟨hd, hm⟩ := (resultQueueExact_iff s).mp h
  have absent : t ∉ s.results.map CompletionRecord.tag := fun hx => ht ((hm t).mp hx)
  rw [resultQueueExact_iff, f.results_act, List.map_append]
  obtain ⟨e, hr⟩ | ⟨e, hr⟩ := map_tag_own f t (s.tag t) <;> rw [e]
  · rw [List.append_nil]
    refine ⟨hd, fun x => ?_⟩
    rw [hm, f.tag_act]
    by_cases hx : x = t
    · simp [hx, ht, hr]
    · rw [if_neg hx]
  · refine ⟨List.nodup_append_comm.mp (List.nodup_cons.mpr ⟨absent, hd⟩), fun x => ?_⟩
    rw [List.mem_append, List.mem_singleton, hm, f.tag_act]
    by_cases hx : x = t
    · simp [hx, hr]
    · simp [hx]

/-- The release of MARKs keeps the result queue exact. -/
theorem ResultQueueExact.after_releaseMarks {s : State} (h : ResultQueueExact s) {u : UnitNo}
    (hu : (s.unit u).orderList.Nodup) : ResultQueueExact (releaseMarks u s) := by
  obtain ⟨hd, hm⟩ := (resultQueueExact_iff s).mp h
  have marks : ((frontMarks u s).map fun m => completionOf m (releasedMark (s.tag m))).map CompletionRecord.tag
      = frontMarks u s := by
    rw [List.map_map]
    exact List.map_id _
  have absent {x : Tag} (hx : x ∈ frontMarks u s) : ¬ (s.tag x).Unpopped :=
    not_unpopped_of_state (mem_frontMarks hx).2 (by decide)
  rw [resultQueueExact_iff, results_releaseMarks, List.map_append, marks]
  refine ⟨List.nodup_append.mpr ⟨hd, hu.sublist (List.takeWhile_sublist _), fun x hx y hy e => ?_⟩, fun x => ?_⟩
  · exact absent (e ▸ hy) ((hm x).mp hx)
  · rw [List.mem_append, hm, tag_releaseMarks]
    by_cases hx : x ∈ frontMarks u s
    · rw [if_pos hx]
      exact ⟨fun _ => ⟨rfl, rfl⟩, fun _ => .inr hx⟩
    · rw [if_neg hx]
      simp [hx]

theorem not_unpopped_of_live {r : TagRecord} (h : r.state.inOrderList = true) : ¬ r.Unpopped := fun hu => by
  rw [hu.1] at h
  cases h

theorem ResultQueueExact.after_settleTag {s : State} (h : ResultQueueExact s) (outcome : TxOutcome) (reason : PostedReason)
    (t : Tag) : ResultQueueExact (settleTag outcome reason t s) := by
  obtain ⟨-, e⟩ | ⟨-, e⟩ | ⟨hs, e⟩ | ⟨hs, -, e⟩ | ⟨hs, -, e⟩ := settleTag_cases outcome reason t s <;> rw [e]
  · exact h
  · refine h.of_same rfl fun x => ?_
    rw [tag_updTag]
    split
    · next hx => rw [hx]; exact Iff.rfl
    · exact Iff.rfl
  · exact h.after_act _ (not_unpopped_of_state hs (by decide))
  · exact ResultQueueExact.after_act (s := reportPosted t reason s) h _ (not_unpopped_of_live hs)
  · exact h.after_act _ (not_unpopped_of_live hs)

theorem ResultQueueExact.after_settleAllTags {s : State} (h : ResultQueueExact s) : ResultQueueExact (settleAllTags s) :=
  foldl_preserves ResultQueueExact _ (fun _ t h => h.after_settleTag _ _ t) _ s h

theorem ResultQueueExact.after_settleUnitTags {s : State} (h : ResultQueueExact s) (u : UnitNo) :
    ResultQueueExact (settleUnitTags u s) :=
  foldl_preserves ResultQueueExact _ (fun s' t h => by
    split
    · exact h.after_settleTag _ _ t
    · exact h) _ s h

/-- The pop of the head of the queue. -/
theorem ResultQueueExact.popped {s : State} {r : CompletionRecord} {rest : List CompletionRecord} (h : ResultQueueExact s)
    (queue : s.results = r :: rest) :
    ResultQueueExact (updTag r.tag (fun r => { r with popped := true }) { s with results := rest }) := by
  obtain ⟨hd, hm⟩ := (resultQueueExact_iff s).mp h
  rw [queue, List.map_cons] at hd hm
  obtain ⟨absent, hd⟩ := List.nodup_cons.mp hd
  refine ⟨hd, fun x => ?_⟩
  have e := tag_updTag r.tag x (fun r => { r with popped := true }) { s with results := rest }
  rw [e]
  by_cases hx : x = r.tag
  · rw [if_pos hx, hx]
    exact ⟨fun hmem => absurd hmem absent, fun hu => nomatch hu.2⟩
  · rw [if_neg hx]
    refine Iff.trans ?_ (hm x)
    rw [List.mem_cons]
    exact ⟨.inr, fun h => h.resolve_left hx⟩

/-! ## The unpopped tags of each event -/

theorem unpopped_of_one {s s' : State} {t : Tag} (others : ∀ x, x ≠ t → s'.tag x = s.tag x)
    (own : (s'.tag t).Unpopped ↔ (s.tag t).Unpopped) (x : Tag) : (s'.tag x).Unpopped ↔ (s.tag x).Unpopped := by
  by_cases hx : x = t
  · rw [hx]
    exact own
  · rw [others x hx]

theorem Touches.unpopped {t : Tag} {s s' : State} (h : Touches t s s') (x : Tag) :
    (s'.tag x).Unpopped ↔ (s.tag x).Unpopped :=
  unpopped_of_one h.others (by rw [h.own]; exact Iff.rfl) x

theorem Touches.results {t : Tag} {s s' : State} (h : Touches t s s') : s'.results = s.results := by rw [h.frame]

theorem results_creditFor (f : Fate) (t : Tag) (s : State) : (creditFor f t s).results = s.results := by
  rw [creditFor_eq]

theorem iff_of_neither {r r' : TagRecord} (h : ¬ r.Unpopped) (h' : ¬ r'.Unpopped) : r'.Unpopped ↔ r.Unpopped :=
  ⟨fun e => absurd e h', fun e => absurd e h⟩

theorem ResultQueueExact.placed {s : State} {t : Tag} (h : ResultQueueExact s) (absent : (s.tag t).state = .free)
    (k : Kind) : ResultQueueExact (placeTag t k (fillTag t k s)) := by
  have fresh := fresh_fillTag t k s
  have before := not_unpopped_of_state absent (by decide)
  have filled := not_unpopped_of_state fresh.state (by decide)
  have hw : ResultQueueExact (fillTag t k s) :=
    h.of_same rfl (unpopped_of_one fresh.others (iff_of_neither before filled))
  obtain ⟨-, e⟩ | ⟨-, -, e⟩ | ⟨-, -, e⟩ := placeTag_cases t k (fillTag t k s) <;> rw [e]
  · exact hw
  · exact hw.after_act (.complete markEnding) filled
  · refine hw.of_same rfl (unpopped_of_one (t := t) (fun x hx => ?_) (iff_of_neither filled ?_))
    · rw [updUnit_tag, tag_updTag_of_ne hx]
    · rw [updUnit_tag, tag_updTag_self]
      exact not_unpopped_of_state (p := .waiting) rfl (by decide)

theorem ResultQueueExact.event {c : Instr} {s s' : State} (he : TagEvent c s s') (hl : ListsExact s)
    (h : ResultQueueExact s) : ResultQueueExact s' := by
  cases he with
  | still => exact h
  | submitted check kind lowest => exact h.placed (free_of_lowestFreeTag lowest) _
  | popped queue command => exact h.popped queue
  | @released t complete popped =>
    exact h.after_act _ fun hu => by rw [hu.2] at popped; cases popped
  | touched live touch => exact h.of_same touch.results touch.unpopped
  | @segment s' t state posted touch =>
    refine (h.of_same touch.results touch.unpopped).of_same rfl
      (unpopped_of_one (t := t) (fun x hx => tag_updTag_of_ne hx _ _) ?_)
    have live : (s'.tag t).state.inOrderList = true := by
      rw [touch.state]
      exact inOrderList_of_inFlight state
    refine iff_of_neither (not_unpopped_of_live live) ?_
    rw [tag_updTag_self]
    refine not_unpopped_of_live ?_
    simp only [segmentRecord]
    split
    · rfl
    · exact live
  | @cancelling t cause state =>
    refine h.of_same rfl (unpopped_of_one (t := t) (fun x hx => by rw [tag_enterCancelling, if_neg hx])
      (iff_of_neither (not_unpopped_of_live ?_) ?_))
    · obtain e | e | e := state <;> rw [e] <;> rfl
    · rw [tag_enterCancelling, if_pos rfl]
      exact not_unpopped_of_state (p := .cancelling) rfl (by decide)
  | @departed s' t f live touch fits =>
    have hl' := (hl.touched touch).after_creditFor f t
    have h' : ResultQueueExact (creditFor f t s') :=
      h.of_same ((results_creditFor f t s').trans touch.results) fun x => by rw [tag_creditFor]; exact touch.unpopped x
    have ht : ¬ ((creditFor f t s').tag t).Unpopped := by
      rw [tag_creditFor]
      exact not_unpopped_of_live (by rwa [touch.state])
    exact (h'.after_act f ht).after_releaseMarks ((hl'.after_act f t).orders _).1
  | @freed t orphaned =>
    have hc : ResultQueueExact (returnCredit (s.tag t).unit s) := h
    exact hc.after_act _ (not_unpopped_of_state orphaned (by decide))
  | @paid t complete owed =>
    have hc : ResultQueueExact (returnCredit (s.tag t).unit s) := h
    refine hc.of_same rfl (unpopped_of_one (t := t) (fun x hx => tag_updTag_of_ne hx _ _) ?_)
    rw [tag_updTag_self]
    exact Iff.rfl
  | @requested t choice =>
    obtain ⟨queued, -, -⟩ := eligible_of_dispatchChoice choice
    refine h.of_same rfl (unpopped_of_one (t := t) (fun x hx => by rw [tag_sendRequest, if_neg hx])
      (iff_of_neither (not_unpopped_of_state queued (by decide)) (not_unpopped_of_live ?_)))
    rw [tag_sendRequest, if_pos rfl]
    simp only
    split <;> rfl
  | @cancelSent t rest head =>
    refine h.of_same rfl (unpopped_of_one (t := t) (fun x hx => by rw [tag_sendCancel, if_neg hx]) ?_)
    rw [tag_sendCancel, if_pos rfl]
    exact Iff.rfl
  | reported session accepted => exact h
  | @unitGone u present =>
    have hq := h.after_settleUnitTags u
    generalize settleUnitTags u s = w at hq ⊢
    exact hq.of_same rfl fun x => Iff.rfl
  | linkLost reason =>
    refine h.after_settleAllTags.of_same (results_linkLoss reason s) fun x => ?_
    rw [tag_linkLoss, tag_settleAllTags]
  | reset command after =>
    refine ⟨by simp [after.results], fun x => ?_⟩
    simp [after.results, after.tag]

/-! ## FREE records (R2) -/

/-- A record that is blank where it is FREE. -/
def TagRecord.BlankIfFree (r : TagRecord) : Prop := r.state = .free → r = {}

theorem blankIfFree_of_state {r : TagRecord} {p : TagState} (h : r.state = p) (hp : p ≠ .free) : r.BlankIfFree :=
  fun e => absurd (h.symm.trans e) hp

theorem blankIfFree_of_live {r : TagRecord} (h : r.state.inOrderList = true) : r.BlankIfFree := fun e => by
  rw [e] at h
  cases h

theorem Fate.blankIfFree_record (f : Fate) (r : TagRecord) : (f.record r).BlankIfFree := by
  cases f with
  | complete e => exact nofun
  | free => exact fun _ => rfl
  | orphan => exact nofun

theorem TagRecord.BlankIfFree.settled {r : TagRecord} (h : r.BlankIfFree) (outcome : TxOutcome) :
    (settledRecord outcome r).BlankIfFree := by
  unfold settledRecord
  split
  case h_1 => exact h
  case h_2 => exact fun _ => rfl
  case h_3 hs => exact blankIfFree_of_state (p := .complete) hs (by decide)
  all_goals
    split
    · exact fun _ => rfl
    · exact nofun

theorem TagEvent.blankIfFree {c : Instr} {s s' : State} (he : TagEvent c s s') (hl : ListsExact s)
    (hq : ResultQueueExact s) (h : ∀ x, (s.tag x).BlankIfFree) : ∀ x, (s'.tag x).BlankIfFree := by
  have touched {t : Tag} {w : State} (live : (s.tag t).state.inOrderList = true) (touch : Touches t s w) :
      ∀ x, (w.tag x).BlankIfFree :=
    forall_tag_of_one h touch.others (blankIfFree_of_live (by rwa [touch.state]))
  cases he with
  | still => exact h
  | @submitted k t check kind lowest =>
    have fresh := fresh_fillTag t k s
    refine forall_tag_of_one (t := t) h (fun x hx => by rw [tag_placeTag t x k _ hx, fresh.others x hx]) ?_
    obtain ⟨-, e⟩ | ⟨-, -, e⟩ | ⟨-, -, e⟩ := placeTag_cases t k (fillTag t k s) <;> rw [e]
    · exact blankIfFree_of_state (p := .queued) fresh.state (by decide)
    · rw [tag_completeTag, if_pos rfl]
      exact nofun
    · rw [updUnit_tag, tag_updTag_self]
      exact nofun
  | @popped r rest queue command =>
    refine forall_tag_of_one (t := r.tag) h (fun x hx => tag_updTag_of_ne hx _ { s with results := rest }) ?_
    rw [tag_updTag_self]
    have complete : (s.tag r.tag).state = .complete := ((hq.2 r.tag).mp (by simp [queue])).1
    exact blankIfFree_of_state (p := .complete) complete (by decide)
  | @released t complete popped =>
    refine forall_tag_of_one (t := t) h (fun x hx => by rw [Fate.tag_act, if_neg hx]) ?_
    rw [Fate.tag_act, if_pos rfl]
    exact Fate.blankIfFree_record _ _
  | touched live touch => exact touched live touch
  | @segment s' t state posted touch =>
    refine forall_tag_of_one (t := t) (touched (inOrderList_of_inFlight state) touch)
      (fun x hx => tag_updTag_of_ne hx _ _) (blankIfFree_of_live ?_)
    rw [tag_updTag_self]
    simp only [segmentRecord, touch.state]
    split
    · rfl
    · exact inOrderList_of_inFlight state
  | @cancelling t cause state =>
    refine forall_tag_of_one (t := t) h (fun x hx => by rw [tag_enterCancelling, if_neg hx]) ?_
    rw [tag_enterCancelling, if_pos rfl]
    exact nofun
  | @departed s' t f live touch fits =>
    intro x
    obtain ⟨rfl, e⟩ | ⟨-, hw, e⟩ | ⟨-, e⟩ := state_depart f t x (creditFor f t s') <;> rw [e]
    · exact f.blankIfFree_record _
    · exact nofun
    · rw [tag_creditFor]
      exact touched live touch x
  | @freed t orphaned =>
    refine forall_tag_of_one (t := t) h (fun x hx => by rw [Fate.tag_act, if_neg hx]; rfl) ?_
    rw [Fate.tag_act, if_pos rfl]
    exact Fate.blankIfFree_record _ _
  | @paid t complete owed =>
    refine forall_tag_of_one (t := t) h (fun x hx => by rw [tag_updTag_of_ne hx]; rfl) ?_
    rw [tag_updTag_self]
    exact blankIfFree_of_state (p := .complete) complete (by decide)
  | @requested t choice =>
    refine forall_tag_of_one (t := t) h (fun x hx => by rw [tag_sendRequest, if_neg hx]) (blankIfFree_of_live ?_)
    rw [tag_sendRequest, if_pos rfl]
    simp only
    split <;> rfl
  | @cancelSent t rest head =>
    refine forall_tag_of_one (t := t) h (fun x hx => by rw [tag_sendCancel, if_neg hx]) ?_
    rw [tag_sendCancel, if_pos rfl]
    obtain ⟨-, mem, state⟩ := hl.cancels
    have cancelling : (s.tag t).state = .cancelling := state t ((mem t).mp (by simp [head]))
    exact blankIfFree_of_state (p := .cancelling) cancelling (by decide)
  | reported session accepted => exact h
  | @unitGone u present =>
    intro x
    rw [updUnit_tag, tag_settleUnitTags]
    split
    · exact (h x).settled _
    · exact h x
  | linkLost reason =>
    intro x
    rw [tag_linkLoss]
    exact (h x).settled _
  | reset command after =>
    intro x
    rw [after.tag]
    exact fun _ => rfl

/-! ## Released MARKs (R54) -/

theorem MarksReleased.of_same {s s' : State} (h : MarksReleased s)
    (lists : ∀ v, (s'.unit v).orderList = (s.unit v).orderList)
    (tags : ∀ x, (s'.tag x).state = .waiting → (s.tag x).state = .waiting) : MarksReleased s' := by
  intro v x hx hw
  rw [lists] at hx
  exact h v x hx (tags x hw)

theorem waiting_of_one {s s' : State} {t : Tag} (others : ∀ x, x ≠ t → s'.tag x = s.tag x)
    (own : (s'.tag t).state ≠ .waiting) (x : Tag) (hx : (s'.tag x).state = .waiting) : (s.tag x).state = .waiting := by
  by_cases e : x = t
  · exact absurd (e ▸ hx) own
  · rwa [← others x e]

/-- A departure leaves no WAITING MARK first: those that came first were released. -/
theorem MarksReleased.after_depart {s : State} (h : MarksReleased s) (hl : ListsExact s) (f : Fate) (t : Tag) :
    MarksReleased (f.depart t s) := by
  have hw := (hl.after_act f t).orders
  intro v x hx hwait
  have front : x ∉ frontMarks (s.tag t).unit (f.act t s) := fun hf => by
    rw [tag_depart, if_pos hf] at hwait
    cases hwait
  rw [tag_depart, if_neg front] at hwait
  rw [Fate.depart, unit_releaseMarks] at hx
  by_cases hv : v = (s.tag t).unit
  · subst hv
    have rest : ((f.act t s).unit (s.tag t).unit).orderList.filter (fun x =>
          decide ¬(x ∈ frontMarks (s.tag t).unit (f.act t s) ∧ ((f.act t s).tag x).unit = (s.tag t).unit))
        = ((f.act t s).unit (s.tag t).unit).orderList.dropWhile (fun x => ((f.act t s).tag x).state = .waiting) := by
      rw [← filter_not_mem_takeWhile _ (hw _).1]
      refine List.filter_congr fun y hy => ?_
      have := (((hw _).2 y).mp hy).1
      simp [this, frontMarks]
    rw [rest] at hx
    have := List.head?_dropWhile_not (fun x => decide (((f.act t s).tag x).state = .waiting))
      ((f.act t s).unit (s.tag t).unit).orderList
    rw [hx] at this
    simp [hwait] at this
  · have same : ((f.act t s).unit v).orderList.filter (fun x =>
          decide ¬(x ∈ frontMarks (s.tag t).unit (f.act t s) ∧ ((f.act t s).tag x).unit = v))
        = (s.unit v).orderList := by
      rw [f.orderList_act, if_neg hv]
      refine List.filter_eq_self.mpr fun y hy => decide_eq_true fun ⟨hf, hu⟩ => ?_
      exact hv (hu.symm.trans (((hw _).2 y).mp (mem_frontMarks hf).1).1)
    rw [same] at hx
    rw [f.tag_act] at hwait
    split at hwait
    · have := f.inOrderList_record (s.tag t)
      rw [hwait] at this
      cases this
    · exact h v x hx hwait

/-- A tag at the tail of its unit's order list leaves no WAITING MARK first, unless it is one and alone there. -/
theorem MarksReleased.enlisted {s s' : State} {t : Tag} (h : MarksReleased s) (out : ∀ v, t ∉ (s.unit v).orderList)
    (others : ∀ x, x ≠ t → s'.tag x = s.tag x)
    (lists : ∀ v, (s'.unit v).orderList
      = if v = (s'.tag t).unit then (s.unit v).orderList ++ [t] else (s.unit v).orderList)
    (behind : (s'.tag t).state = .waiting → (s.unit (s'.tag t).unit).orderList ≠ []) : MarksReleased s' := by
  have before {v : UnitNo} {x : Tag} (hx : (s.unit v).orderList.head? = some x) (hwait : (s'.tag x).state = .waiting) :
      False := by
    rw [others x fun e => out v (e ▸ List.mem_of_mem_head? hx)] at hwait
    exact h v x hx hwait
  intro v x hx hwait
  rw [lists] at hx
  split at hx
  · next hv =>
    cases hl : (s.unit v).orderList with
    | nil =>
      rw [hl, List.nil_append, List.head?_cons, Option.some.injEq] at hx
      exact behind (hx ▸ hwait) (hv ▸ hl)
    | cons y l =>
      rw [hl, List.cons_append, List.head?_cons, Option.some.injEq] at hx
      exact before (v := v) (by rw [hl, List.head?_cons, hx]) hwait
  · exact before hx hwait

theorem MarksReleased.placed {s w : State} {t : Tag} (h : MarksReleased s) (hl : ListsExact s)
    (absent : (s.tag t).state = .free) (fresh : Fresh t s w) (k : Kind) : MarksReleased (placeTag t k w) := by
  have out (v : UnitNo) : t ∉ (s.unit v).orderList := hl.not_mem_orderList (by simp [absent, TagState.inOrderList])
  obtain ⟨-, e⟩ | ⟨-, -, e⟩ | ⟨-, nonempty, e⟩ := placeTag_cases t k w <;> rw [e]
  · refine h.enlisted (t := t) out fresh.others (fun v => ?_) fun hw => ?_
    · rw [← fresh.units]
      exact orderList_updUnit_append _ v t w
    · exact absurd (fresh.state.symm.trans hw) (by decide)
  · refine h.of_same (fresh.orderList_completeTag hl absent) (waiting_of_one (t := t) (fun x hx => ?_) ?_)
    · rw [fresh.tag_completeTag, if_neg hx]
    · rw [fresh.tag_completeTag, if_pos rfl]
      exact nofun
  · have own := tag_updTag_self t (fun r => { r with state := .waiting }) w
    refine h.enlisted (t := t) out (fun x hx => ?_) (fun v => ?_) fun _ => ?_
    · rw [updUnit_tag, tag_updTag_of_ne hx, fresh.others x hx]
    · rw [updUnit_tag, own, ← fresh.units]
      exact orderList_updUnit_append _ v t _
    · rw [updUnit_tag, own, ← fresh.units]
      exact nonempty

/-- A tag that stood in no list meets a fate. -/
theorem MarksReleased.after_act {s : State} (h : MarksReleased s) (hl : ListsExact s) (f : Fate) {t : Tag}
    (out : (s.tag t).state.inOrderList = false) : MarksReleased (f.act t s) := by
  refine h.of_same (fun v => ?_) (waiting_of_one (t := t) (fun x hx => by rw [f.tag_act, if_neg hx]) ?_)
  · rw [f.orderList_act]
    split
    · exact filter_ne_of_not_mem (hl.not_mem_orderList (by simp [out]))
    · rfl
  · rw [f.tag_act, if_pos rfl]
    intro hw
    have := f.inOrderList_record (s.tag t)
    rw [hw] at this
    cases this

/-- The settlement of a unit's tags leaves the other units' records as they are. -/
theorem unit_settleUnitTags_of_ne {u v : UnitNo} (h : v ≠ u) (s : State) : (settleUnitTags u s).unit v = s.unit v := by
  have act (f : Fate) (t : Tag) (w : State) (hu : (w.tag t).unit = u) : (f.act t w).unit v = w.unit v := by
    rw [f.unit_act, unit_leaveLists, if_neg (hu ▸ h)]
  refine foldl_keeps (fun w => w.unit v) _ (fun w t => ?_) _ s
  split
  · next hu =>
    obtain ⟨-, e⟩ | ⟨-, e⟩ | ⟨-, e⟩ | ⟨-, -, e⟩ | ⟨-, -, e⟩ := settleTag_cases .unitGone .unitGone t w <;> rw [e]
    · rfl
    · exact act _ t w hu
    · exact act _ t (reportPosted t .unitGone w) hu
    · exact act _ t w hu
  · rfl

theorem marksReleased_of_empty {s : State} (h : ∀ v, (s.unit v).orderList = []) : MarksReleased s := by
  intro v x hx
  rw [h] at hx
  cases hx

theorem MarksReleased.aside {s s' : State} (ha : Aside s s') (h : MarksReleased s) : MarksReleased s' :=
  h.of_same ha.orderList fun x hx => by rwa [ha.tag] at hx

theorem MarksReleased.event {c : Instr} {s s' : State} (he : TagEvent c s s') (hl : ListsExact s) (h : MarksReleased s) :
    MarksReleased s' := by
  have touched {t : Tag} {w : State} (touch : Touches t s w) : MarksReleased w :=
    h.of_same (fun v => by rw [touch.unit]) fun x hx => by rwa [touch.state] at hx
  cases he with
  | still => exact h
  | submitted check kind lowest => exact h.placed hl (free_of_lowestFreeTag lowest) (fresh_fillTag _ _ s) _
  | @popped r rest queue command =>
    refine h.of_same (fun _ => rfl) fun x hx => ?_
    rw [tag_updTag] at hx
    split at hx
    · next e => rwa [e]
    · exact hx
  | @released t complete popped => exact h.after_act hl _ (by rw [complete]; rfl)
  | touched live touch => exact touched touch
  | @segment s' t state posted touch =>
    refine (touched touch).of_same (fun _ => rfl) (waiting_of_one (t := t) (fun x hx => tag_updTag_of_ne hx _ _) ?_)
    rw [tag_updTag_self]
    simp only [segmentRecord, touch.state]
    split
    · exact nofun
    · intro hw
      rw [hw] at state
      cases state
  | @cancelling t cause state =>
    refine h.of_same (fun _ => rfl) (waiting_of_one (t := t) (fun x hx => by rw [tag_enterCancelling, if_neg hx]) ?_)
    rw [tag_enterCancelling, if_pos rfl]
    exact nofun
  | @departed s' t f live touch fits =>
    have hm : MarksReleased (creditFor f t s') :=
      (touched touch).of_same (fun v => by rw [(unit_creditFor f t v s').1]) fun x hx => by rwa [tag_creditFor] at hx
    exact hm.after_depart ((hl.touched touch).after_creditFor f t) f t
  | @freed t orphaned =>
    have lists (v : UnitNo) := orderList_returnCredit (s.tag t).unit v s
    have hc : MarksReleased (returnCredit (s.tag t).unit s) := h.of_same lists fun x hx => hx
    have hlc : ListsExact (returnCredit (s.tag t).unit s) := hl.of_same rfl rfl lists fun x => .refl _
    exact hc.after_act hlc _ (by rw [show ((returnCredit (s.tag t).unit s).tag t).state = .orphaned from orphaned]; rfl)
  | @paid t complete owed =>
    refine h.of_same (fun v => orderList_returnCredit (s.tag t).unit v s)
      (waiting_of_one (t := t) (fun x hx => tag_updTag_of_ne hx _ _) ?_)
    rw [tag_updTag_self]
    intro hw
    exact absurd (complete.symm.trans hw) (by decide)
  | @requested t choice =>
    refine h.of_same (fun v => ?_) (waiting_of_one (t := t) (fun x hx => by rw [tag_sendRequest, if_neg hx]) ?_)
    · rw [unit_sendRequest]
      split <;> rfl
    · rw [tag_sendRequest, if_pos rfl]
      simp only
      split <;> exact nofun
  | @cancelSent t rest head =>
    refine h.of_same (fun _ => rfl) fun x hx => ?_
    rw [tag_sendCancel] at hx
    split at hx
    · next e => rwa [e]
    · exact hx
  | @reported u spaces classCode limit maxBlock session accepted =>
    exact h.of_same (fun v => unit_updUnit_proj UnitRecord.orderList u v _ s rfl) fun x hx => hx
  | @unitGone u present =>
    have own := hl.orderList_settleUnitTags u
    have others (v : UnitNo) (hv : v ≠ u) := unit_settleUnitTags_of_ne hv s
    have tags (x : Tag) := tag_settleUnitTags u x s
    generalize settleUnitTags u s = w at own others tags ⊢
    intro v x hx hwait
    rw [unit_updUnit_gone] at hx
    rw [updUnit_tag, tags] at hwait
    split at hx
    · rw [goneUnit_orderList] at hx
      cases hx
    next hv =>
    rw [others v hv] at hx
    split at hwait
    · have := settledRecord_not_live .unitGone (s.tag x)
      rw [hwait] at this
      cases this
    · exact h v x hx hwait
  | linkLost reason =>
    refine marksReleased_of_empty fun v => ?_
    rw [unit_linkLoss]
    exact lostUnit_orderList _
  | reset command after =>
    refine marksReleased_of_empty fun v => ?_
    rw [after.units]

/-- The condition of O54. -/
structure ListsAndQueueExact (s : State) : Prop where
  lists : ListsExact s
  results : ResultQueueExact s
  blank : ∀ x, (s.tag x).BlankIfFree
  marks : MarksReleased s

theorem ListsAndQueueExact.aside {s s' : State} (ha : Aside s s') (h : ListsAndQueueExact s) : ListsAndQueueExact s' where
  lists := h.lists.aside ha
  results := h.results.of_same ha.results fun x => by rw [ha.tag]
  blank x := by
    rw [ha.tag]
    exact h.blank x
  marks := h.marks.aside ha

theorem ListsAndQueueExact.event {c : Instr} {s s' : State} (he : TagEvent c s s') (h : ListsAndQueueExact s) :
    ListsAndQueueExact s' where
  lists := h.lists.event he
  results := h.results.event he h.lists
  blank := he.blankIfFree h.lists h.results h.blank
  marks := h.marks.event he h.lists

/-- Settles O54: asides and every event of the tag table keep the lists and the result queue exact. -/
theorem keptListsAndResultQueue : Obligations.KeptListsAndResultQueue := by
  have h : KeptByStep ListsAndQueueExact := keptByStep_of ListsAndQueueExact.aside ListsAndQueueExact.event
  have e (s : State) : ListsAndQueueExact s ↔ ListsExact s ∧ ResultQueueExact s ∧ FreeTagsBlank s ∧ MarksReleased s :=
    ⟨fun ⟨hl, hr, hb, hm⟩ => ⟨hl, hr, hb, hm⟩, fun ⟨hl, hr, hb, hm⟩ => ⟨hl, hr, hb, hm⟩⟩
  rwa [funext fun s => propext (e s)] at h

end Sys2Proof.Machine
end


section
/-! SUPPORT. A departure is the relation Departs of the statements: a tag that stands in its unit's order list completes, becomes
FREE or becomes ORPHANED. -/

namespace Sys2Proof.Machine

/-! ## What a fate and a departure leave alone -/

/-- No fate reads or changes the host port or the event unit. -/
theorem Fate.act_with (f : Fate) (t : Tag) (s : State) (h : HostPort) (e : EventUnit) :
    f.act t { s with host := h, events := e } = { f.act t s with host := h, events := e } := by
  cases f <;> rfl

theorem releaseMarks_with (u : UnitNo) (s : State) (h : HostPort) (e : EventUnit) :
    releaseMarks u { s with host := h, events := e } = { releaseMarks u s with host := h, events := e } := by
  rw [releaseMarks_foldl, releaseMarks_foldl]
  change (frontMarks u s).foldl _ _ = _
  generalize frontMarks u s = l
  induction l generalizing s with
  | nil => rfl
  | cons a l ih => exact ih (completeTag a markEnding s)

/-- No departure reads or changes the host port or the event unit. -/
theorem Fate.depart_with (f : Fate) (t : Tag) (s : State) (h : HostPort) (e : EventUnit) :
    f.depart t { s with host := h, events := e } = { f.depart t s with host := h, events := e } := by
  unfold Fate.depart
  rw [f.act_with, releaseMarks_with]
  rfl

/-- A departure touches the tag table, its queues, the store's pool and the order lists alone. -/
theorem Fate.depart_eq (f : Fate) (t : Tag) (s : State) :
    f.depart t s = { s with
      tags := (f.depart t s).tags, units := (f.depart t s).units, results := (f.depart t s).results
      store := putChunks (f.returned (s.tag t)) s.store
      dispatchQueue := (f.depart t s).dispatchQueue, owedCancels := (f.depart t s).owedCancels } := by
  have act := f.act_eq t s
  have release := releaseMarks_eq (s.tag t).unit (f.act t s)
  unfold Fate.depart
  generalize releaseMarks (s.tag t).unit (f.act t s) = w at release ⊢
  generalize f.act t s = a at act release
  refine release.trans ?_
  rw [act]

/-- A departure before or after the command result is set is the same. -/
theorem setResult_depart (r : CmdResult) (f : Fate) (t : Tag) (s : State) :
    setResult r (f.depart t s) = f.depart t (setResult r s) := by
  have host : (f.depart t s).host = s.host := by rw [f.depart_eq]
  have h := f.depart_with t s { s.host with cmdResult := r } s.events
  refine Eq.trans ?_ h.symm
  have events : (f.depart t s).events = s.events := by rw [f.depart_eq]
  rw [← host, ← events]
  rfl

/-- A departure before or after a protocol error is counted is the same. -/
theorem protocolError_depart (f : Fate) (t : Tag) (s : State) :
    protocolError (f.depart t s) = f.depart t (protoErrorCounted s) := by
  have host : (f.depart t s).host = s.host := by rw [f.depart_eq]
  have events : (f.depart t s).events = s.events := by rw [f.depart_eq]
  refine Eq.trans ?_ (f.depart_with t s s.host (protoErrorCounted s).events).symm
  rw [protocolError_eq, ← host]
  unfold protoErrorCounted
  rw [events]

/-! ## A tag that stands in no list -/

/-- A fate of a tag that stands in no list: its record, its completion record and its chunks. -/
theorem Fate.act_of_unlisted (f : Fate) {t : Tag} {s : State} (queue : t ∉ s.dispatchQueue) (cancels : t ∉ s.owedCancels)
    (list : t ∉ (s.unit (s.tag t).unit).orderList) :
    f.act t s = { updTag t (fun _ => f.record (s.tag t)) s with
      results := s.results ++ f.own t (s.tag t), store := putChunks (f.returned (s.tag t)) s.store } := by
  have tags : (f.act t s).tags = (updTag t (fun _ => f.record (s.tag t)) s).tags :=
    tags_eq_of fun x => by rw [f.tag_act, tag_updTag]
  have units : (f.act t s).units = s.units := units_eq_of fun v => by
    rw [f.unit_act, unit_leaveLists]
    split
    · next hv => rw [filter_ne_of_not_mem (hv ▸ list)]
    · rfl
  rw [f.act_eq, tags, units, filter_ne_of_not_mem queue, filter_ne_of_not_mem cancels]
  rfl

/-- A fate of a tag whose state is in no list, the lists being exact. -/
theorem Fate.act_of_not_live (f : Fate) {t : Tag} {s : State} (h : ListsExact s)
    (out : (s.tag t).state.inOrderList = false) :
    f.act t s = { updTag t (fun _ => f.record (s.tag t)) s with
      results := s.results ++ f.own t (s.tag t), store := putChunks (f.returned (s.tag t)) s.store } := by
  refine f.act_of_unlisted (h.not_mem_dispatchQueue ?_) (h.not_mem_owedCancels ?_) (h.not_mem_orderList ?_)
  · intro e
    rw [e] at out
    cases out
  · intro e
    rw [e] at out
    cases out
  · simp [out]

/-! ## The MARKs that a departure releases -/

theorem takeWhile_congr_of_mem {α : Type} {p q : α → Bool} {l : List α} (h : ∀ x ∈ l, p x = q x) :
    l.takeWhile p = l.takeWhile q := by
  induction l with
  | nil => rfl
  | cons a l ih =>
    rw [List.takeWhile_cons, List.takeWhile_cons, h a List.mem_cons_self, ih fun x hx => h x (List.mem_cons_of_mem _ hx)]

/-- The MARKs that stand first once a tag has left are those of R54. -/
theorem frontMarks_act (f : Fate) (t : Tag) (s : State) :
    frontMarks (s.tag t).unit (f.act t s) = marksReleased t s := by
  unfold frontMarks marksReleased
  rw [f.orderList_act, if_pos rfl]
  refine takeWhile_congr_of_mem fun x hx => ?_
  have hx : x ≠ t := of_decide_eq_true (List.mem_filter.mp hx).2
  rw [f.tag_act, if_neg hx]

theorem mem_marksReleased {t x : Tag} {s : State} (h : x ∈ marksReleased t s) :
    x ≠ t ∧ (s.tag x).state = .waiting ∧ x ∈ (s.unit (s.tag t).unit).orderList := by
  have hw := List.mem_takeWhile_imp (p := fun x => decide ((s.tag x).state = .waiting)) h
  obtain ⟨hx, hn⟩ := List.mem_filter.mp ((List.takeWhile_sublist _).mem h)
  exact ⟨of_decide_eq_true hn, of_decide_eq_true hw, hx⟩

/-! ## The relation of the statements -/

theorem results_depart (f : Fate) (t : Tag) (s : State) :
    (f.depart t s).results = s.results ++ f.own t (s.tag t)
      ++ (marksReleased t s).map (fun m => completionOf m (releasedMark (s.tag m))) := by
  rw [Fate.depart, results_releaseMarks, f.results_act, frontMarks_act]
  congr 1
  refine List.map_congr_left fun m hm => ?_
  rw [f.tag_act, if_neg (mem_marksReleased hm).1]

/-- A list without a tag and its MARKs is the list without the tag where it holds none of them. -/
theorem filter_marks_of_not_mem {l q : List Tag} (t : Tag) (h : ∀ x ∈ l, x ∉ q) :
    (q.filter (fun x => decide (x ≠ t))).filter (fun x => decide (x ∉ l)) = q.filter (fun x => decide (x ≠ t)) := by
  refine List.filter_eq_self.mpr fun x hx => decide_eq_true fun hl => ?_
  exact h x hl (List.mem_filter.mp hx).1

theorem dispatchQueue_depart {s : State} (h : ListsExact s) (f : Fate) (t : Tag) :
    (f.depart t s).dispatchQueue = s.dispatchQueue.filter (fun x => x ≠ t) := by
  rw [Fate.depart, dispatchQueue_releaseMarks, f.dispatchQueue_act, frontMarks_act]
  exact filter_marks_of_not_mem t fun x hx => h.not_mem_dispatchQueue (by simp [(mem_marksReleased hx).2.1])

theorem owedCancels_depart {s : State} (h : ListsExact s) (f : Fate) (t : Tag) :
    (f.depart t s).owedCancels = s.owedCancels.filter (fun x => x ≠ t) := by
  rw [Fate.depart, owedCancels_releaseMarks, f.owedCancels_act, frontMarks_act]
  exact filter_marks_of_not_mem t fun x hx => h.not_mem_owedCancels (by simp [(mem_marksReleased hx).2.1])

theorem unit_depart {s : State} (h : ListsExact s) (f : Fate) (t : Tag) (v : UnitNo) :
    (f.depart t s).unit v = { s.unit v with
      orderList := (s.unit v).orderList.filter (fun x => x ∉ t :: marksReleased t s) } := by
  have own {x : Tag} (hx : x ∈ (s.unit v).orderList) : (s.tag x).unit = v := (((h.orders v).2 x).mp hx).1
  rw [Fate.depart, unit_releaseMarks, f.unit_act, unit_leaveLists, frontMarks_act]
  by_cases hv : v = (s.tag t).unit
  · rw [if_pos hv]
    simp only [List.filter_filter]
    congr 1
    refine List.filter_congr fun x hx => ?_
    by_cases hxt : x = t
    · simp [hxt]
    · simp [f.tag_act, hxt, own hx]
  · rw [if_neg hv]
    refine congrArg (fun q => { s.unit v with orderList := q }) (List.filter_congr fun x hx => ?_)
    have hxt : x ≠ t := fun e => hv (own (e ▸ hx)).symm
    have hm : x ∉ marksReleased t s := fun hm =>
      hv ((own hx).symm.trans (((h.orders _).2 x).mp (mem_marksReleased hm).2.2).1)
    simp [hxt, hm]

/-- An event that ends with a departure. -/
theorem departs_depart {s : State} (h : ListsExact s) (f : Fate) (t : Tag) :
    Departs t (f.record (s.tag t)) (f.own t (s.tag t)) { s with store := putChunks (f.returned (s.tag t)) s.store }
      { f.depart t s with
        events := s.events.afterAppends s.results.length (f.depart t s).results.length } := by
  have tag (x : Tag) := tag_depart f t x s
  rw [frontMarks_act] at tag
  have marks : marksReleased t { s with store := putChunks (f.returned (s.tag t)) s.store } = marksReleased t s := rfl
  unfold Departs
  rw [marks]
  refine ⟨?_, fun m hm => ?_, fun x hx hm => ?_, results_depart f t s, unit_depart h f t, dispatchQueue_depart h f t,
    owedCancels_depart h f t, rfl, ?_⟩
  · refine (tag t).trans ?_
    rw [if_neg fun hm => (mem_marksReleased hm).1 rfl, f.tag_act, if_pos rfl]
  · refine (tag m).trans ?_
    rw [if_pos hm, f.tag_act, if_neg (mem_marksReleased hm).1]
    rfl
  · refine (tag x).trans ?_
    rw [if_neg hm, f.tag_act, if_neg hx]
    rfl
  · have frame := f.depart_eq t s
    generalize f.depart t s = w at frame ⊢
    rw [frame]

/-- An event answers its effect where that appends no record. -/
theorem takeEvent_next {s w : State} {effect : State → State} (released : s.resetAsserted = false) (he : effect s = w)
    (results : w.results.length ≤ s.results.length) : takeEvent effect s = .next w := by
  subst he
  exact takeEvent_of_no_append released results

/-- The answer of an event whose effect is a departure, of a state that has the same number of results. -/
theorem answers_depart {s w : State} {effect : State → State} (released : s.resetAsserted = false) (h : ListsExact w)
    (results : w.results = s.results) {f : Fate} {t : Tag} (he : effect s = f.depart t w) :
    Answers (takeEvent effect s) (Departs t (f.record (w.tag t)) (f.own t (w.tag t))
      { w with store := putChunks (f.returned (w.tag t)) w.store }) := by
  refine ⟨_, takeEvent_of_released released effect, ?_⟩
  have events : (f.depart t w).events = w.events := by rw [f.depart_eq]
  rw [he, ← results, events]
  exact departs_depart h f t

theorem answers_completes {s w : State} {effect : State → State} (released : s.resetAsserted = false) (h : ListsExact w)
    (results : w.results = s.results) {e : Ending} {t : Tag} (he : effect s = (Fate.complete e).depart t w) :
    Answers (takeEvent effect s) (Completes t e w) := answers_depart released h results he

theorem answers_frees {s w : State} {effect : State → State} (released : s.resetAsserted = false) (h : ListsExact w)
    (results : w.results = s.results) {t : Tag} (he : effect s = Fate.free.depart t w) :
    Answers (takeEvent effect s) (Frees t w) := answers_depart released h results he

theorem answers_orphans {s w : State} {effect : State → State} (released : s.resetAsserted = false) (h : ListsExact w)
    (results : w.results = s.results) {t : Tag} (he : effect s = Fate.orphan.depart t w) :
    Answers (takeEvent effect s) (Orphans t w) := by
  obtain ⟨t', ht', hd⟩ := answers_depart released h results he
  have own : t'.tag t = Fate.orphan.record (w.tag t) := hd.1
  refine ⟨t', ht', ?_, ?_, ?_, ?_⟩
  · rw [own]
    rfl
  · rw [own]
    rfl
  · rw [own]
    rfl
  · rw [own]
    exact hd

end Sys2Proof.Machine
end


section
/-! SUPPORT. The commands on tags: SUBMIT, CANCEL, POP_RESULT and RELEASE, each with its whole effect (O10 to O14). -/

namespace Sys2Proof.Machine

/-! ## SUBMIT -/

/-- The code that a kind is staged by. -/
theorem code_of_kindOfCode {code : BitVec 3} {k : Kind} (h : kindOfCode code = some k) : code.toNat = k.code := by
  unfold kindOfCode at h
  split at h
  case h_7 => cases h
  all_goals
    next e =>
      cases h
      exact e

/-- Table 2.3 with its codes read: a SUBMIT that fails no check there passes the checks of the model. -/
theorem submitCheck_of_firstRefusal {s : State} {k : Kind} (kind : kindOfCode s.staging.kindCode = some k)
    (h : firstRefusal s = none) : submitCheck s = .done := by
  have code := code_of_kindOfCode kind
  have block : decide (s.staging.kindCode.toNat = 3 ∨ s.staging.kindCode.toNat = 4) = k.isBlock := by
    rw [code]
    cases k <;> rfl
  have single : decide (s.staging.kindCode.toNat = 2 ∨ s.staging.kindCode.toNat = 5) = k.usesLanes := by
    rw [code]
    cases k <;> rfl
  have mark : decide (s.staging.kindCode.toNat = 6) = decide (k = .mark) := by
    rw [code]
    cases k <;> rfl
  have posted : decide (s.staging.kindCode.toNat = 2 ∨ s.staging.kindCode.toNat = 4) = k.mayBePosted := by
    rw [code]
    cases k <;> rfl
  have required (n : Nat) : (if k.usesLanes = true then 1 else if s.staging.kindCode.toNat = 4 then n else 0)
      = k.payloadRequired n := by
    rw [code]
    cases k <;> rfl
  have chunks (n : Nat) : k.chunksReserved n = if k.isBlock = true then (n + 15) / 16 else 0 := rfl
  have full : lowestFreeTag s = none ↔ ∀ t, (s.tag t).state ≠ .free := by
    simp [lowestFreeTag, mem_allTags]
  simp only [firstRefusal, submitTable, block, single, mark, posted, required, Option.map_eq_none_iff, List.find?_eq_none,
    List.forall_mem_cons, List.not_mem_nil, false_implies, implies_true, and_true, Bool.and_eq_true, Bool.not_eq_true',
    decide_eq_true_eq, decide_eq_false_iff_not] at h
  obtain ⟨up, -, unit, space, align, range, length, lanes, payload, postedKind, tags, buffer⟩ := h
  rw [submitCheck, if_neg (by simpa using up)]
  simp only [kind]
  rw [checkKind]
  rw [if_neg (by simpa using unit), if_neg (by simpa using space), if_neg (by simpa using align), if_neg (by simpa using range),
    if_neg (by simpa using length), if_neg (by simpa using lanes), if_neg payload, if_neg (by simpa using postedKind),
    if_neg (by rwa [full]), if_neg (by rw [chunks]; split <;> simp_all)]

/-- A SUBMIT that passes every check is accepted for the lowest FREE tag. -/
theorem cmdSubmit_of_firstRefusal {s : State} {k : Kind} {t : Tag} (kind : kindOfCode s.staging.kindCode = some k)
    (lowest : LowestFree t s) (h : firstRefusal s = none) (operand : Byte) :
    cmdSubmit operand s = setResult .done (acceptSubmit t k s) := by
  rw [cmdSubmit, submitCheck_of_firstRefusal kind h, kind, lowestFreeTag_of_lowestFree lowest]

/-- Settles O10: the acceptance of every kind but MARK, field by field. -/
theorem submitAcceptsRequest : Obligations.SubmitAcceptsRequest := by
  intro s operand k t released kind notMark lowest passed g block single chunks record
  refine takeEvent_next released ?_ (Nat.le_refl _)
  have reserved : (freeChunks s.store).take (k.chunksReserved g.length.toNat) = chunks := by
    cases k <;> rfl
  have filled : stagedRecord k chunks g = record := by
    cases k
    case mark => exact absurd rfl notMark
    all_goals rfl
  rw [cmdSubmit_of_firstRefusal kind lowest passed, acceptSubmit_eq]
  obtain ⟨-, e⟩ | ⟨hk, -⟩ | ⟨hk, -⟩ := placeTag_cases t k (fillTag t k s)
  · have unit : ((fillTag t k s).tag t).unit = g.unit := by
      rw [tag_fillTag, if_pos rfl]
      rfl
    rw [e, unit, fillTag, reserved, filled]
    rfl
  · exact absurd hk notMark
  · exact absurd hk notMark

/-- The record of a MARK in WAITING (Table 2.2). -/
def markRecord (u : UnitNo) : TagRecord := { state := .waiting, kind := .mark, unit := u }

/-- A MARK takes no chunk and no data: its record alone is filled. -/
theorem fillTag_mark {t : Tag} {s : State} (posted : s.staging.posted = false) :
    fillTag t .mark s = updTag t (fun _ => { markRecord s.staging.unit with state := .queued }) s := by
  have filled : stagedRecord .mark [] s.staging = { markRecord s.staging.unit with state := .queued } := by
    rw [stagedRecord, posted]
    rfl
  rw [← filled]
  rfl

/-- Settles O11: behind other tags the MARK waits; with none it completes, the act of completion finding it in no list. -/
theorem submitAcceptsMark : Obligations.SubmitAcceptsMark := by
  intro s operand t released kind lowest passed h u record done
  have posted : s.staging.posted = false := by
    obtain ⟨-, -, postedKind⟩ := admitted_of_submitCheck (submitCheck_of_firstRefusal kind passed) kind
    cases hp : s.staging.posted with
    | true => exact absurd (postedKind hp) (by decide)
    | false => rfl
  have effect := cmdSubmit_of_firstRefusal kind lowest passed operand
  rw [acceptSubmit_eq, fillTag_mark posted] at effect
  have own := tag_updTag_self t (fun _ => { markRecord s.staging.unit with state := .queued }) s
  generalize hw : updTag t (fun _ => { markRecord s.staging.unit with state := .queued }) s = w at effect own
  have unit : (w.tag t).unit = u := by rw [own]; rfl
  have list : (w.unit u).orderList = (s.unit u).orderList := by rw [← hw]; rfl
  obtain ⟨hk, -⟩ | ⟨-, empty, e⟩ | ⟨-, nonempty, e⟩ := placeTag_cases t .mark w
  · exact absurd rfl hk
  · rw [unit, list] at empty
    rw [if_pos empty]
    have act : completeTag t markEnding w = { updTag t (fun _ => completedRecord markEnding (w.tag t)) w with
        results := s.results ++ [⟨t, .mark, u, .ok, none, .yes, false, 0⟩] } := by
      have out := lowest.1
      have act := (Fate.complete markEnding).act_of_unlisted (t := t) (s := w)
        (by rw [← hw]; exact h.not_mem_dispatchQueue (by simp [out]))
        (by rw [← hw]; exact h.not_mem_owedCancels (by simp [out]))
        (by rw [unit, list, empty]; exact List.not_mem_nil)
      have completion : (Fate.complete markEnding).own t (w.tag t) = [⟨t, .mark, u, .ok, none, .yes, false, 0⟩] := by
        rw [own]
        rfl
      rw [completion] at act
      rw [← hw] at act ⊢
      exact act
    rw [e, act, own, ← hw, updTag_updTag] at effect
    refine (takeEvent_of_released released (cmdSubmit operand)).trans ?_
    have length : s.results.length + 1
        = (s.results ++ [(⟨t, .mark, u, .ok, none, .yes, false, 0⟩ : CompletionRecord)]).length := by simp
    rw [effect, length]
    rfl
  · rw [unit, list] at nonempty
    rw [if_neg nonempty]
    refine takeEvent_next released ?_ (Nat.le_refl _)
    rw [effect, e, unit, ← hw, updTag_updTag]
    rfl

/-! ## CANCEL -/

theorem cancelTag_refused {t : Tag} {s : State} (h : (s.tag t).posted = true ∨ (s.tag t).state = .free
    ∨ (s.tag t).state = .posted ∨ (s.tag t).state = .complete ∨ (s.tag t).state = .orphaned) :
    cancelTag t s = withResult .wrongState s := by
  unfold cancelTag
  split
  · rfl
  next hp =>
  obtain h | h | h | h | h := h
  · exact absurd h hp
  all_goals
    rw [h]
    rfl

theorem cancelTag_of_unsent {t : Tag} {s : State} (posted : (s.tag t).posted = false)
    (h : (s.tag t).state = .queued ∨ (s.tag t).state = .waiting) :
    cancelTag t s = (Fate.complete ⟨.cancelled, none, .no, 0, false⟩).depart t
      (updTag t (fun r => { r with cancelRequested := true }) (withResult .done s)) := by
  have e : cancelTag t s = setResult .done ((Fate.complete ⟨.cancelled, none, .no, 0, false⟩).depart t
      (updTag t (fun r => { r with cancelRequested := true }) s)) := by
    unfold cancelTag
    rw [posted, if_neg Bool.false_ne_true]
    obtain h | h := h <;> simp only [h] <;> rfl
  rw [e, setResult_depart]
  rfl

theorem cancelTag_of_sent {t : Tag} {s : State} (posted : (s.tag t).posted = false)
    (h : (s.tag t).state = .sent ∨ (s.tag t).state = .receiving) :
    cancelTag t s = setResult .done (enterCancelling .host t s) := by
  unfold cancelTag
  rw [posted, if_neg Bool.false_ne_true]
  obtain h | h := h <;> simp only [h]

theorem cancelTag_of_cancelling {t : Tag} {s : State} (posted : (s.tag t).posted = false)
    (h : (s.tag t).state = .cancelling) :
    cancelTag t s = setResult .done (updTag t (fun r => { r with cancelRequested := true }) s) := by
  unfold cancelTag
  rw [posted, if_neg Bool.false_ne_true]
  simp only [h]

/-- The record that joins the owed-cancel list, the host's wish noted. -/
theorem enterCancelling_host (t : Tag) (s : State) :
    enterCancelling .host t s = { updTag t (fun r => { r with
        state := .cancelling, cancelCause := .host, cancelPending := true, cancelRequested := true, timer := .idle }) s with
      owedCancels := s.owedCancels ++ [t] } := by
  unfold enterCancelling
  simp only [decide_true, Bool.or_true]
  rfl

/-- Settles O12: one clause for each group of states of Table 1.6. -/
theorem cancelFollowsTagState : Obligations.CancelFollowsTagState := by
  intro s operand t released named h done
  have effect : cmdCancel operand s = cancelTag t s := onTag_of_eq named _ s
  refine ⟨fun hs => ?_, fun posted hs => ?_, fun posted hs => ?_, fun posted hs => ?_⟩
  · exact takeEvent_next released (effect.trans (cancelTag_refused hs)) (Nat.le_refl _)
  · exact answers_completes released (ListsExact.after_updTag (s := done) h ⟨rfl, rfl, .inl rfl⟩) rfl
      (effect.trans (cancelTag_of_unsent posted hs))
  · refine takeEvent_next released ((effect.trans (cancelTag_of_sent posted hs)).trans ?_) (Nat.le_refl _)
    rw [enterCancelling_host]
    rfl
  · exact takeEvent_next released (effect.trans (cancelTag_of_cancelling posted hs)) (Nat.le_refl _)

/-! ## POP_RESULT -/

/-- Settles O13: the queue is empty or has a head. -/
theorem popResultMovesHead : Obligations.PopResultMovesHead := by
  intro s operand released
  refine ⟨fun empty => takeEvent_next released ?_ (Nat.le_refl _), fun c rest queue => takeEvent_next released ?_ ?_⟩
  · unfold cmdPopResult
    split
    · rfl
    · next h => cases empty.symm.trans h
  · unfold cmdPopResult
    split
    · next h => cases h.symm.trans queue
    · next h =>
      cases h.symm.trans queue
      rw [settlePop_eq]
      rfl
  · change rest.length ≤ s.results.length
    rw [queue]
    exact Nat.le_succ _

/-! ## RELEASE -/

/-- What becomes of a popped COMPLETE tag that is released (R13). -/
def releaseFate (r : TagRecord) : Fate := if r.farReplyPending = true then .orphan else .free

/-- A released tag stands in no list, so its record, its chunks and its selection are all that changes. -/
theorem releaseTag_of_popped {t : Tag} {s : State} (h : ListsExact s) (complete : (s.tag t).state = .complete)
    (popped : (s.tag t).popped = true) :
    releaseTag t s = { updTag t (fun _ => (releaseFate (s.tag t)).record (s.tag t)) s with
      store := putChunks (s.tag t).chunkList s.store
      host :=
        if s.host.selected = some t then
          { s.host with cmdResult := .done, selected := none, readPointer := 0, readLimit := 0 }
        else { s.host with cmdResult := .done } } := by
  have act : (if (s.tag t).farReplyPending then orphanTag t s else freeTag t s) = (releaseFate (s.tag t)).act t s := by
    unfold releaseFate
    split <;> rfl
  have chunks : (releaseFate (s.tag t)).returned (s.tag t) = (s.tag t).chunkList := by
    unfold releaseFate
    split <;> rfl
  have none : (releaseFate (s.tag t)).own t (s.tag t) = [] := by
    unfold releaseFate
    split <;> rfl
  rw [releaseTag, if_pos complete, if_pos popped, act, Fate.act_of_not_live _ h (by rw [complete]; rfl), chunks, none,
    List.append_nil, dropSelection_eq]
  by_cases selected : s.host.selected = some t
  · simp only [setResult, updHost, updTag, selected, if_true]
  · simp only [setResult, updHost, updTag, selected, if_false]

/-- Settles O14: by the state and by popped; a tag that is released stands in no list. -/
theorem releaseFreesOrOrphans : Obligations.ReleaseFreesOrOrphans := by
  intro s operand t released named h
  have effect : cmdRelease operand s = releaseTag t s := onTag_of_eq named _ s
  refine ⟨fun hs => takeEvent_next released (effect.trans ?_) (Nat.le_refl _),
    fun complete popped => takeEvent_next released (effect.trans ?_) (Nat.le_refl _), fun complete popped => ?_⟩
  · rw [releaseTag, if_neg hs]
    rfl
  · rw [releaseTag, if_pos complete, popped, if_neg Bool.false_ne_true]
    rfl
  · have e := effect.trans (releaseTag_of_popped h complete popped)
    have answer := takeEvent_next released e (Nat.le_refl _)
    have own := tag_updTag_self t (fun _ => (releaseFate (s.tag t)).record (s.tag t)) s
    generalize hw : State.mk _ _ _ _ _ _ _ _ _ _ _ _ _ _ _ = w at answer
    have own : w.tag t = (releaseFate (s.tag t)).record (s.tag t) := hw ▸ own
    refine ⟨w, answer, ?_, ?_⟩
    · rw [own]
      unfold releaseFate
      split
      · exact ⟨rfl, rfl, rfl⟩
      · rfl
    · rw [own]
      exact hw.symm

end Sys2Proof.Machine
end


section
/-! SUPPORT. Replies to a tag that is still to be answered, late replies, and the expiries of a tag's two timers (O35 to O41). -/

namespace Sys2Proof.Machine

/-! ## A reply that is matched -/

theorem dataReply_of_wellFormed {final short : Bool} {count : Byte} {words : List Word} (low : 1 ≤ count.toNat)
    (high : count.toNat ≤ 16) (length : words.length = count.toNat) (form : ¬ (short = true ∧ final = false))
    (offset : Byte) :
    dataReply final short offset count words = some (.data final short offset.toNat count.toNat words) := by
  rw [dataReply, if_neg]
  rintro (h | h | h | h)
  · omega
  · omega
  · exact h length
  · exact form h

theorem refuseReply_of_code {reason : Byte} {why : RefusalReason} (h : reason.toNat = why.code) :
    refuseReply reason = some (.refuse why) := by
  unfold refuseReply reasonOfByte
  rw [h]
  cases why <;> rfl

theorem exists_refusal_of_range {n : Nat} (low : 1 ≤ n) (high : n ≤ 6) : ∃ why : RefusalReason, n = why.code := by
  have h : n = 1 ∨ n = 2 ∨ n = 3 ∨ n = 4 ∨ n = 5 ∨ n = 6 := by omega
  obtain h | h | h | h | h | h := h
  · exact ⟨.address, h⟩
  · exact ⟨.access, h⟩
  · exact ⟨.space, h⟩
  · exact ⟨.length, h⟩
  · exact ⟨.device, h⟩
  · exact ⟨.cancelled, h⟩

/-- A reply to a tag that is still to be answered is checked (R68). -/
theorem takeReply_of_answerable {t : Tag} {u : UnitNo} {s : State} (h : Answerable t u s) (b : ReplyBody) :
    takeReply t u (some b) s = if passesChecks (s.tag t) b then acceptReply t b s else violateReply t b s := by
  obtain ⟨present, unit, state⟩ := h
  have matched : matched t u s = true :=
    (matched_iff t u s).mpr ⟨present, unit, by obtain h | h | h | h := state <;> simp [h]⟩
  have unanswered : ¬ ((s.tag t).state = .orphaned ∨ (s.tag t).state = .complete) := by
    obtain h | h | h | h := state <;> simp [h]
  simp only [takeReply, matched, if_true, takeMatched, if_neg unanswered]

/-- A reply to a tag that only owes the end of its debt is not checked (R79). -/
theorem takeReply_of_late {t : Tag} {u : UnitNo} {s : State} (present : (s.unit u).present = true)
    (unit : (s.tag t).unit = u)
    (late : ((s.tag t).state = .complete ∧ (s.tag t).farReplyPending = true) ∨ (s.tag t).state = .orphaned)
    (b : ReplyBody) : takeReply t u (some b) s = if b.isFinal then lateFinal t s else s := by
  have matched : matched t u s = true :=
    (matched_iff t u s).mpr ⟨present, unit, by obtain ⟨h, h'⟩ | h := late <;> simp_all⟩
  have answered : (s.tag t).state = .orphaned ∨ (s.tag t).state = .complete := by
    obtain ⟨h, -⟩ | h := late <;> simp [h]
  simp only [takeReply, matched, if_true, takeMatched, if_pos answered]

/-! ## Data -/

/-- The kinds whose replies bring data. -/
def TakesData (k : Kind) : Prop := k = .read ∨ k = .readBlock ∨ k = .exchange

/-- The tag's own part of placing a segment's words: its words received rise, and word 0 of a kind without chunks goes into
the slot (R41, R70). -/
def placedRecord (count : Nat) (words : List Word) (r : TagRecord) : TagRecord :=
  { r with
    wordsReceived := r.wordsReceived + count
    slot := if r.kind = .readBlock then r.slot else words.headD r.slot }

/-- The data of a segment placed: a READ BLOCK's into its chunks, another kind's into the slot (R41). -/
theorem placeData_eq {t : Tag} {s : State} (kind : TakesData (s.tag t).kind) (offset count : Nat) (words : List Word) :
    placeData t offset count words s
      = { updTag t (fun _ => placedRecord count words (s.tag t)) s with
          store :=
            if (s.tag t).kind = .readBlock then writePlaces (s.tag t).chunkList offset words s.store else s.store } := by
  have slot (other : (s.tag t).kind ≠ .readBlock) (h : (s.tag t).kind.isBlock = false) :
      placeData t offset count words s
        = { updTag t (fun _ => placedRecord count words (s.tag t)) s with
            store :=
              if (s.tag t).kind = .readBlock then writePlaces (s.tag t).chunkList offset words s.store else s.store } := by
    rw [placeData_of_slot h, placedRecord, if_neg other, if_neg other]
    rfl
  obtain h | h | h := kind
  · exact slot (by simp [h]) (by rw [h]; rfl)
  · rw [placeData_of_block (by rw [h]; rfl), placedRecord, if_pos h, if_pos h]
    rfl
  · exact slot (by simp [h]) (by rw [h]; rfl)

theorem passesChecks_data {r : TagRecord} {final short : Bool} {offset count : Nat} (words : List Word)
    (kind : TakesData r.kind) (next : offset = r.wordsReceived)
    (length : if final && !short then offset + count = r.length else offset + count < r.length) :
    passesChecks r (.data final short offset count words) = true := by
  have le : offset + count ≤ r.length := by
    split at length <;> omega
  have takes : (match r.kind with
      | .read | .readBlock | .exchange => true
      | .write | .writeBlock | .mark => false) = true := by
    obtain h | h | h := kind <;> rw [h]
  simp only [passesChecks, Bool.and_eq_true, decide_eq_true_eq]
  refine ⟨⟨⟨takes, next⟩, le⟩, ?_⟩
  split at length
  · next h => rw [if_pos (by simpa using h)]; exact decide_eq_true length
  · next h => rw [if_neg (by simpa using h)]; exact decide_eq_true length

/-- Settles O35: the segment passes its checks, so its words are placed and the tag goes on. -/
theorem segmentPlacesWords : Obligations.SegmentPlacesWords := by
  intro s h t u offset count words inOrder answerable posted kind low high length next more r block timeout
  have unit : (s.tag t).unit = u := answerable.2.1
  refine takeEvent_next inOrder.1 ?_ (Nat.le_refl _)
  have passes : passesChecks ((delivered s).tag t) (.data false false offset.toNat count.toNat words) = true :=
    passesChecks_data words kind next more
  rw [receiveMessage_of_inOrder inOrder, deliver, dataReply_of_wellFormed low high length (by simp),
    takeReply_of_answerable (s := delivered s) answerable, if_pos passes]
  have accept : acceptReply t (.data false false offset.toNat count.toNat words) (delivered s)
      = acceptSegment t offset.toNat count.toNat words (delivered s) :=
    if_neg (by rw [show ((delivered s).tag t).posted = false from posted]; exact Bool.false_ne_true)
  rw [accept, acceptSegment, placeData_eq (s := delivered s) kind]
  have placed := updTag_updTag t (fun r =>
      { r with
        state := if r.state = .sent then .receiving else r.state
        timer := r.timer.restart ((delivered s).unit r.unit).replyTimeout })
    (fun _ => placedRecord count.toNat words ((delivered s).tag t)) (delivered s)
  have store (w : State) (b : BufferStore) (f : TagRecord → TagRecord) :
      updTag t f { w with store := b } = { updTag t f w with store := b } := rfl
  rw [store, placed]
  simp only [placedRecord]
  rw [show ((delivered s).unit ((delivered s).tag t).unit).replyTimeout = timeout from
    congrArg (fun v => (s.unit v).replyTimeout) unit]
  rfl

/-- What an accepted final REPLY-DATA writes into the record (R71, R77). -/
theorem finalEnding_data (r : TagRecord) (short : Bool) (offset count : Nat) (words : List Word) :
    finalEnding r (.data true short offset count words) =
      if r.state = .cancelling ∧ r.cancelCause = .timeout then ⟨.timeout, none, .yes, 0, false⟩
      else if short = true then ⟨.short, none, .yes, r.wordsReceived, false⟩
      else ⟨.ok, none, .yes, r.length, false⟩ := by
  by_cases hs : r.state = .cancelling
  · cases hc : r.cancelCause <;> simp [finalEnding, replyEnding, hs, hc]
  · cases h : r.state <;> simp_all [finalEnding, replyEnding]

/-- An accepted final reply for a tag that is not posted (R67, R71, R76, R77). -/
theorem acceptReply_of_final {t : Tag} {u : UnitNo} {b : ReplyBody} {s : State} (posted : (s.tag t).posted = false)
    (unit : (s.tag t).unit = u) (final : b.isFinal = true) :
    acceptReply t b s = (Fate.complete (finalEnding ((creditReturned u (placeReply t b s)).tag t) b)).depart t
      (creditReturned u (placeReply t b s)) := by
  have accept : acceptReply t b s = acceptFinal t b s := by
    unfold acceptReply
    rw [posted, if_neg Bool.false_ne_true]
    split
    · cases final
    · rfl
  rw [accept, acceptFinal, unit]
  rfl

theorem ListsExact.after_creditReturned {s : State} (h : ListsExact s) (u : UnitNo) : ListsExact (creditReturned u s) :=
  h.of_same rfl rfl (fun v => orderList_returnCredit u v s) fun _ => .refl _

theorem ListsExact.after_delivered {s : State} (h : ListsExact s) : ListsExact (delivered s) :=
  h.of_same rfl rfl (fun _ => rfl) fun _ => .refl _

theorem ListsExact.after_reported {s : State} (h : ListsExact s) (t : Tag) (reason : PostedReason) :
    ListsExact (reported t reason s) :=
  h.of_same rfl rfl (fun _ => rfl) fun _ => .refl _

theorem ListsExact.after_protoError {s : State} (h : ListsExact s) : ListsExact (protoErrorCounted s) :=
  h.of_same rfl rfl (fun _ => rfl) fun _ => .refl _

/-- Settles O36: the data is placed, the credit returns, and the tag departs with the ending of Tables 5.3 and 5.4. -/
theorem finalDataCompletesTag : Obligations.FinalDataCompletesTag := by
  intro s h t u short offset count words inOrder exact answerable posted kind low high length next size r block received
    placed e
  have unit : (s.tag t).unit = u := answerable.2.1
  have size' : if true && !short then offset.toNat + count.toNat = r.length
      else offset.toNat + count.toNat < r.length := by
    cases short <;> exact size
  have passes : passesChecks ((delivered s).tag t) (.data true short offset.toNat count.toNat words) = true :=
    passesChecks_data words kind next size'
  have place : placeReply t (.data true short offset.toNat count.toNat words) (delivered s) = placed :=
    placeData_eq (s := delivered s) kind _ _ _
  have own : (creditReturned u placed).tag t = placedRecord count.toNat words r :=
    tag_updTag_self t (fun _ => placedRecord count.toNat words r) (delivered s)
  have ending : finalEnding ((creditReturned u placed).tag t) (.data true short offset.toNat count.toNat words) = e := by
    rw [finalEnding_data, own]
    rfl
  have placedExact : ListsExact placed := by
    have ht := exact.after_delivered.after_updTag (t := t) (f := fun _ => placedRecord count.toNat words r) ⟨rfl, rfl, .inl rfl⟩
    exact ht.of_same rfl rfl (fun _ => rfl) fun _ => .refl _
  refine answers_completes inOrder.1 (placedExact.after_creditReturned u) rfl ?_
  rw [receiveMessage_of_inOrder inOrder, deliver, dataReply_of_wellFormed low high length (by simp),
    takeReply_of_answerable (s := delivered s) answerable, if_pos passes,
    acceptReply_of_final (s := delivered s) posted unit rfl, place, ending]

/-! ## REPLY-DONE and REPLY-REFUSE -/

theorem passesChecks_done {r : TagRecord} (kind : r.kind = .write ∨ r.kind = .writeBlock) : passesChecks r .done = true := by
  obtain h | h := kind <;> simp [passesChecks, h]

theorem finalEnding_done (r : TagRecord) :
    finalEnding r .done =
      ⟨if r.state = .cancelling ∧ r.cancelCause = .timeout then .timeout else .ok, none, .yes, 0, false⟩ := by
  by_cases hs : r.state = .cancelling
  · cases hc : r.cancelCause <;> simp [finalEnding, replyEnding, hs, hc]
  · cases h : r.state <;> simp_all [finalEnding, replyEnding]

theorem finalEnding_refuse (r : TagRecord) (why : RefusalReason) :
    finalEnding r (.refuse why) =
      ⟨if r.state = .cancelling ∧ r.cancelCause = .timeout then .timeout
        else if r.state = .cancelling ∧ why = .cancelled then .cancelled else .refused, some why, .no, 0, false⟩ := by
  by_cases hs : r.state = .cancelling
  · cases hc : r.cancelCause <;> cases why <;> simp [finalEnding, replyEnding, hs, hc]
  · cases h : r.state <;> simp_all [finalEnding, replyEnding]

/-- Settles O37: both replies pass their checks, and the tag departs with its ending. -/
theorem doneAndRefusalCompleteTag : Obligations.DoneAndRefusalCompleteTag := by
  intro s h t u reason why inOrder exact answerable posted late base
  have unit : (s.tag t).unit = u := answerable.2.1
  have baseExact : ListsExact base := exact.after_delivered.after_creditReturned u
  refine ⟨fun kind => answers_completes inOrder.1 baseExact rfl ?_, fun code => answers_completes inOrder.1 baseExact rfl ?_⟩
  · rw [receiveMessage_of_inOrder inOrder, deliver, takeReply_of_answerable (s := delivered s) answerable,
      if_pos (passesChecks_done (r := (delivered s).tag t) kind), acceptReply_of_final (s := delivered s) posted unit rfl, finalEnding_done]
    rfl
  · have passes : passesChecks ((delivered s).tag t) (.refuse why) = true := by
      rw [passesChecks, show ((delivered s).tag t).posted = false from posted]
      rfl
    rw [receiveMessage_of_inOrder inOrder, deliver, refuseReply_of_code code,
      takeReply_of_answerable (s := delivered s) answerable, if_pos passes,
      acceptReply_of_final (s := delivered s) posted unit rfl, finalEnding_refuse]
    rfl

/-! ## Posted tags -/

/-- An accepted reply for a posted tag (R80, R81). -/
theorem acceptReply_of_posted {t : Tag} {u : UnitNo} {b : ReplyBody} {s : State} (posted : (s.tag t).posted = true)
    (unit : (s.tag t).unit = u) :
    acceptReply t b s = Fate.free.depart t (creditReturned u (postedReport t b s)) := by
  have hu : ((creditReturned u (postedReport t b s)).tag t).unit = (s.tag t).unit := by
    unfold postedReport
    split
    · split <;> rfl
    · rfl
    · rfl
  unfold acceptReply
  rw [if_pos posted, acceptPosted, unit, ← unit, ← hu]
  rfl

/-- A violation for a posted tag: PROTOCOL is reported and counted, and the tag becomes FREE or ORPHANED (R82). -/
theorem violateReply_of_posted {t : Tag} {u : UnitNo} {b : ReplyBody} {s : State} (posted : (s.tag t).posted = true)
    (unit : (s.tag t).unit = u) :
    violateReply t b s =
      if b.isFinal then Fate.free.depart t (creditReturned u (reported t .protocol (protoErrorCounted s)))
      else Fate.orphan.depart t (reported t .protocol (protoErrorCounted s)) := by
  have violate : violateReply t b s = protocolError (violatePosted t b.isFinal s) := by
    rw [violateReply, if_pos posted]
  rw [violate, violatePosted, reportPosted_eq]
  cases b.isFinal with
  | true =>
    rw [unit]
    exact protocolError_depart .free t (creditReturned u (reported t .protocol s))
  | false => exact protocolError_depart .orphan t (reported t .protocol s)

theorem postedReport_refuse (t : Tag) (why : RefusalReason) (s : State) :
    postedReport t (.refuse why) s
      = reported t (if (s.tag t).state = .cancelling then .timeout else postedRefusal why) s := by
  unfold postedReport
  simp only
  split <;> exact reportPosted_eq _ _ s

/-- Settles O39: by the reply, checked as Table 5.2 says for a posted tag. -/
theorem postedRepliesReachLatch : Obligations.PostedRepliesReachLatch := by
  intro s h t u final short offset count reason words why inOrder exact answerable posted kind state cancelling violated
  have unit : (s.tag t).unit = u := answerable.2.1
  have effect (m : Inbound) : receiveMessage h m s = deliver m (delivered s) := receiveMessage_of_inOrder inOrder m
  have checked (b : ReplyBody) : takeReply t u (some b) (delivered s)
      = if passesChecks (s.tag t) b then acceptReply t b (delivered s) else violateReply t b (delivered s) :=
    takeReply_of_answerable (s := delivered s) answerable b
  have violatedExact : ListsExact violated := exact.after_delivered.after_protoError.after_reported t _
  have results (reason : PostedReason) (w : State) : (creditReturned u (reported t reason w)).results = w.results := rfl
  refine ⟨?_, fun code passes => ?_, fun code notCancelling => ?_, fun low high length form => ?_, fun h => ?_⟩
  · refine answers_frees inOrder.1 (exact.after_delivered.after_creditReturned u) rfl ?_
    rw [effect, deliver, checked, if_pos (passesChecks_done kind),
      acceptReply_of_posted (s := delivered s) posted unit]
    rfl
  · have reportedExact := exact.after_delivered.after_reported t
      (if (s.tag t).state = .cancelling then .timeout else postedRefusal why)
    refine answers_frees inOrder.1 (reportedExact.after_creditReturned u) (results _ _) ?_
    have passes : passesChecks (s.tag t) (.refuse why) = true := by
      obtain h | h := passes
      · simp [passesChecks, show (s.tag t).state = .cancelling from h]
      · simp [passesChecks, h]
    rw [effect, deliver, refuseReply_of_code code, checked, if_pos passes,
      acceptReply_of_posted (s := delivered s) posted unit, postedReport_refuse]
    rfl
  · refine answers_frees inOrder.1 (violatedExact.after_creditReturned u) (results _ _) ?_
    have fails : ¬ passesChecks (s.tag t) (.refuse .cancelled) = true := by
      have : (s.tag t).state ≠ .cancelling := notCancelling
      simp [passesChecks, posted, this]
    rw [effect, deliver, refuseReply_of_code (why := .cancelled) code, checked, if_neg fails,
      violateReply_of_posted (s := delivered s) posted unit]
    exact if_pos rfl
  · have fails : ¬ passesChecks (s.tag t) (.data final short offset.toNat count.toNat words) = true := by
      obtain h | h := kind <;> simp [passesChecks, h]
    have run : receiveMessage h (.replyData t u final short offset count words) s
        = if final then Fate.free.depart t (creditReturned u violated) else Fate.orphan.depart t violated := by
      rw [effect, deliver, dataReply_of_wellFormed low high length form, checked, if_neg fails,
        violateReply_of_posted (s := delivered s) posted unit]
      rfl
    split
    · next hf =>
      rw [if_pos hf] at run
      exact answers_frees inOrder.1 (violatedExact.after_creditReturned u) (results _ _) run
    · next hf =>
      rw [if_neg hf] at run
      exact answers_orphans inOrder.1 violatedExact rfl run
  · cases why
    case cancelled => exact absurd rfl h
    all_goals rfl

/-! ## Late replies -/

theorem chunkList_of_orphaned {t : Tag} {s : State} (h : ChunksAccounted s) (orphaned : (s.tag t).state = .orphaned) :
    (s.tag t).chunkList = [] := by
  obtain ⟨-, -, -, held⟩ := h
  have := held t
  rw [TagRecord.chunksHeld, orphaned] at this
  exact List.eq_nil_of_length_eq_zero this

/-- The debt of a COMPLETE or ORPHANED tag ends (R10, R15). -/
theorem lateFinal_eq {t : Tag} {u : UnitNo} {s : State} (h : ListsExact s) (chunks : ChunksAccounted s)
    (unit : (s.tag t).unit = u) :
    lateFinal t s = creditReturned u (updTag t (fun r =>
      if r.state = .orphaned then {} else { r with farReplyPending := false }) s) := by
  rw [lateFinal, unit]
  split
  · next orphaned =>
    have act := Fate.free.act_of_not_live (h.after_creditReturned u) (t := t)
      (by rw [show ((creditReturned u s).tag t).state = .orphaned from orphaned]; rfl)
    have none : Fate.free.returned ((creditReturned u s).tag t) = [] := chunkList_of_orphaned chunks orphaned
    rw [none] at act
    refine act.trans ?_
    rw [updTag_congr (t := t) (f := fun r => if r.state = .orphaned then {} else { r with farReplyPending := false })
      (g := fun _ => {}) (s := s) (if_pos orphaned)]
    simp only [Fate.own, List.append_nil]
    rfl
  · next h =>
    rw [updTag_congr (t := t) (f := fun r => if r.state = .orphaned then {} else { r with farReplyPending := false })
      (g := fun r => { r with farReplyPending := false }) (s := s) (if_neg h)]
    rfl

/-- Settles O40: a late reply is not checked, and its debt ends where it is final. -/
theorem lateRepliesEndDebt : Obligations.LateRepliesEndDebt := by
  intro s h t u final short offset count reason words inOrder exact chunks present unit late settled
  have effect (m : Inbound) : receiveMessage h m s = deliver m (delivered s) := receiveMessage_of_inOrder inOrder m
  have taken (b : ReplyBody) : takeReply t u (some b) (delivered s) = if b.isFinal then settled else delivered s := by
    rw [takeReply_of_late (s := delivered s) present unit late, lateFinal_eq (s := delivered s) exact.after_delivered chunks unit]
  refine ⟨takeEvent_next inOrder.1 ?_ (Nat.le_refl _), fun low high => takeEvent_next inOrder.1 ?_ (Nat.le_refl _),
    fun low high length form => ?_⟩
  · rw [effect, deliver, taken]
    rfl
  · obtain ⟨why, code⟩ := exists_refusal_of_range low high
    rw [effect, deliver, refuseReply_of_code code, taken]
    rfl
  · have run := effect (.replyData t u final short offset count words)
    rw [deliver, dataReply_of_wellFormed low high length form, taken] at run
    refine takeEvent_next inOrder.1 run ?_
    split <;> exact Nat.le_refl _

/-! ## The timers of a tag -/

/-- The record that joins the owed-cancel list, the far end having been too slow (R73). -/
theorem enterCancelling_timeout (t : Tag) (s : State) :
    enterCancelling .timeout t s = { updTag t (fun r => { r with
        state := .cancelling, cancelCause := .timeout, cancelPending := true, timer := .idle }) s with
      owedCancels := s.owedCancels ++ [t] } := by
  unfold enterCancelling
  simp only [show decide (CancelCause.timeout = .host) = false from rfl, Bool.or_false]
  rfl

/-- Settles O41: a timer acts in the states it runs in, and else not at all. -/
theorem tagTimersExpire : Obligations.TagTimersExpire := by
  intro s t setting released exact
  have still {effect : State → State} (h : effect s = s) : takeEvent effect s = .next s :=
    takeEvent_next released h (Nat.le_refl _)
  refine ⟨fun timer state => takeEvent_next released ?_ (Nat.le_refl _), fun timer state => ?_,
    fun timer => ⟨still ?_, still ?_⟩, fun timer => still ?_, fun timer => still ?_⟩
  · rw [← enterCancelling_timeout]
    unfold expireReplyTimerOf
    obtain h | h | h := state <;> simp only [timer, h]
  · have effect : expireCancelTimerOf t s = if (s.tag t).posted then Fate.orphan.depart t (reported t .lost s)
        else (Fate.complete lostEnding).depart t s := by
      rw [← reportPosted_eq]
      unfold expireCancelTimerOf
      simp only [timer, state]
      rfl
    split
    · next posted =>
      rw [if_pos posted] at effect
      exact answers_orphans released (exact.after_reported t .lost) rfl effect
    · next posted =>
      rw [if_neg posted] at effect
      exact answers_completes released exact rfl effect
  · simp only [expireReplyTimerOf, timer]
  · simp only [expireCancelTimerOf, timer]
  · simp only [expireReplyTimerOf, timer]
  · simp only [expireCancelTimerOf, timer]

end Sys2Proof.Machine
end


section
/-! SUPPORT. The settlement of many tags, and with it link loss and UNIT-GONE (O29, O43). -/

namespace Sys2Proof.Machine

/-! ## What a settlement makes of a tag -/

/-- A settlement completes the tag. -/
def TagRecord.ends (r : TagRecord) : Bool := r.state.inOrderList && !r.posted

/-- A settlement reports the tag to the latch and frees it. -/
def TagRecord.fails (r : TagRecord) : Bool := r.state.inOrderList && r.posted

/-- A settlement returns the tag's chunks. -/
def TagRecord.letsGo (r : TagRecord) : Bool := decide (r.state = .orphaned) || r.fails

/-- The settlement of the tags of a list, one after another. -/
def settleList (outcome : TxOutcome) (reason : PostedReason) (l : List Tag) (s : State) : State :=
  l.foldl (fun s t => settleTag outcome reason t s) s

theorem settleList_cons (outcome : TxOutcome) (reason : PostedReason) (a : Tag) (l : List Tag) (s : State) :
    settleList outcome reason (a :: l) s = settleList outcome reason l (settleTag outcome reason a s) := rfl

/-- What the settlement of the tags of a list, each standing in it once, does beside their records: the completion records,
the reports, the chunks that return, and POSTED (R17, R18). -/
structure SettledList (outcome : TxOutcome) (reason : PostedReason) (l : List Tag) (s s' : State) : Prop where
  results : s'.results = s.results
    ++ (l.filter (fun t => (s.tag t).ends)).map (fun t => completionOf t (settledRecord outcome (s.tag t)))
  latch : s'.latch = (l.filter (fun t => (s.tag t).fails)).foldl
    (fun l t => l.report ⟨t, (s.tag t).unit, (s.tag t).address, reason⟩) s.latch
  chunks : s'.store.chunks = s.store.chunks
  free : ∀ c, s'.store.free.get c
    = (s.store.free.get c || (l.filter (fun t => (s.tag t).letsGo)).any (fun t => (s.tag t).chunkList.contains c))
  events : s'.events = { s.events with
    posted := s.events.posted || !(l.filter (fun t => (s.tag t).fails)).isEmpty }

theorem SettledList.nil (outcome : TxOutcome) (reason : PostedReason) (s : State) :
    SettledList outcome reason [] s s where
  results := by simp
  latch := rfl
  chunks := rfl
  free := by simp
  events := by simp

theorem filter_cons_eq {α : Type} (p : α → Bool) (a : α) (l : List α) :
    (a :: l).filter p = [a].filter p ++ l.filter p := by
  rw [← List.filter_append, List.singleton_append]

theorem SettledList.cons {outcome : TxOutcome} {reason : PostedReason} {a : Tag} {l : List Tag} {s s1 s2 : State}
    (h : SettledList outcome reason [a] s s1) (h' : SettledList outcome reason l s1 s2)
    (others : ∀ x ∈ l, s1.tag x = s.tag x) : SettledList outcome reason (a :: l) s s2 := by
  have same (p : TagRecord → Bool) : l.filter (fun t => p (s1.tag t)) = l.filter (fun t => p (s.tag t)) :=
    List.filter_congr fun x hx => by rw [others x hx]
  have inside {p : TagRecord → Bool} {x : Tag} (hx : x ∈ l.filter (fun t => p (s.tag t))) : s1.tag x = s.tag x :=
    others x (List.mem_filter.mp hx).1
  refine ⟨?_, ?_, h'.chunks.trans h.chunks, fun c => ?_, ?_⟩
  · rw [h'.results, h.results, same TagRecord.ends, filter_cons_eq (fun t => (s.tag t).ends) a l, List.map_append,
      List.append_assoc]
    congr 2
    exact List.map_congr_left fun x hx => by rw [inside hx]
  · rw [h'.latch, h.latch, same TagRecord.fails, filter_cons_eq (fun t => (s.tag t).fails) a l, List.foldl_append]
    exact List.foldl_ext _ _ _ fun b x hx => by rw [inside hx]
  · rw [h'.free, h.free, same TagRecord.letsGo, filter_cons_eq (fun t => (s.tag t).letsGo) a l, List.any_append,
      Bool.or_assoc]
    congr 2
    rw [Bool.eq_iff_iff, List.any_eq_true, List.any_eq_true]
    exact exists_congr fun x => and_congr_right fun hx => by rw [inside hx]
  · rw [h'.events, h.events, same TagRecord.fails, filter_cons_eq (fun t => (s.tag t).fails) a l]
    generalize [a].filter (fun t => (s.tag t).fails) = q
    cases q <;> simp

/-- A settlement of a tag that neither completes nor reports it and returns these chunks. -/
theorem settledList_of_silent {outcome : TxOutcome} {reason : PostedReason} {t : Tag} {s s' : State}
    (ends : (s.tag t).ends = false) (fails : (s.tag t).fails = false) (results : s'.results = s.results)
    (latch : s'.latch = s.latch) (events : s'.events = s.events)
    (store : s'.store = if (s.tag t).letsGo then putChunks (s.tag t).chunkList s.store else s.store) :
    SettledList outcome reason [t] s s' where
  results := by simp [ends, results]
  latch := by simp [fails, latch]
  chunks := by
    rw [store]
    split <;> rfl
  free c := by
    rw [store]
    cases h : (s.tag t).letsGo
    · simp [h]
    · simp [h, putChunks, get_markChunks, Bool.or_comm]
  events := by simp [fails, events]

/-- The settlement of one tag. -/
theorem settledList_settleTag (outcome : TxOutcome) (reason : PostedReason) (t : Tag) (s : State) :
    SettledList outcome reason [t] s (settleTag outcome reason t s) := by
  have dead (out : (s.tag t).state.inOrderList = false) : (s.tag t).ends = false ∧ (s.tag t).fails = false := by
    simp [TagRecord.ends, TagRecord.fails, out]
  obtain ⟨hs, e⟩ | ⟨hs, e⟩ | ⟨hs, e⟩ | ⟨hs, hp, e⟩ | ⟨hs, hp, e⟩ := settleTag_cases outcome reason t s <;> rw [e]
  · obtain ⟨ends, fails⟩ := dead (by rw [hs]; rfl)
    exact settledList_of_silent ends fails rfl rfl rfl (by simp [TagRecord.letsGo, fails, hs])
  · obtain ⟨ends, fails⟩ := dead (by rw [hs]; rfl)
    exact settledList_of_silent ends fails rfl rfl rfl (by simp [TagRecord.letsGo, fails, hs])
  · obtain ⟨ends, fails⟩ := dead (by rw [hs]; rfl)
    have letsGo : (s.tag t).letsGo = true := by simp [TagRecord.letsGo, hs]
    rw [Fate.act_eq]
    exact settledList_of_silent ends fails (List.append_nil _) rfl rfl (if_pos letsGo).symm
  · have ends : (s.tag t).ends = false := by simp [TagRecord.ends, hp]
    have fails : (s.tag t).fails = true := by simp [TagRecord.fails, hs, hp]
    have letsGo : (s.tag t).letsGo = true := by simp [TagRecord.letsGo, fails]
    rw [reportPosted_eq, Fate.act_eq]
    refine ⟨by simp [ends, Fate.own]; rfl, by simp [fails]; rfl, rfl, fun c => ?_, by simp [fails]; rfl⟩
    simp [letsGo, putChunks, get_markChunks, Bool.or_comm]
    rfl
  · have ends : (s.tag t).ends = true := by simp [TagRecord.ends, hs, hp]
    have fails : (s.tag t).fails = false := by simp [TagRecord.fails, hp]
    have letsGo : (s.tag t).letsGo = false := by
      cases h : (s.tag t).state <;> simp_all [TagRecord.letsGo, TagState.inOrderList]
    have record : completedRecord ⟨outcome, none, if (s.tag t).state.unsent then .no else .unknown, 0, false⟩ (s.tag t)
        = settledRecord outcome (s.tag t) := by
      cases h : (s.tag t).state <;> simp_all [settledRecord, TagState.unsent, TagState.inOrderList]
    rw [Fate.act_eq]
    refine ⟨?_, by simp [fails], rfl, by simp [letsGo]; exact fun c => rfl, by simp [fails]⟩
    simp [ends, Fate.own, record]

/-- The settlement of a list of tags. -/
theorem settledList_settleList (outcome : TxOutcome) (reason : PostedReason) {l : List Tag} (hl : l.Nodup) (s : State) :
    SettledList outcome reason l s (settleList outcome reason l s) := by
  induction l generalizing s with
  | nil => exact .nil outcome reason s
  | cons a l ih =>
    obtain ⟨ha, hl⟩ := List.nodup_cons.mp hl
    refine (settledList_settleTag outcome reason a s).cons (ih hl _) fun x hx => ?_
    rw [tag_settleTag, if_neg fun e => ha (by rwa [← e])]

/-- A settlement of a list of tags touches no other block than those of R17 and R18. -/
theorem settleList_frame (outcome : TxOutcome) (reason : PostedReason) (l : List Tag) (s : State) :
    settleList outcome reason l s = { s with
      tags := (settleList outcome reason l s).tags, units := (settleList outcome reason l s).units
      results := (settleList outcome reason l s).results, store := (settleList outcome reason l s).store
      latch := (settleList outcome reason l s).latch, events := (settleList outcome reason l s).events
      dispatchQueue := (settleList outcome reason l s).dispatchQueue
      owedCancels := (settleList outcome reason l s).owedCancels } := by
  induction l generalizing s with
  | nil => rfl
  | cons a l ih =>
    rw [settleList_cons]
    refine (ih _).trans ?_
    congr 1 <;> rw [settleTag_frame]

/-- The chosen tags of the table are settled. -/
theorem settles_of_list {outcome : TxOutcome} {reason : PostedReason} {chosen : Tag → Bool} {l : List Tag}
    {s w s' : State} (h : SettledList outcome reason l s w) (hl : l = allTags.filter chosen)
    (tags : ∀ t, s'.tag t = if chosen t then settledRecord outcome (s.tag t) else s.tag t)
    (same : (s'.results, s'.latch, s'.store, s'.events.posted) = (w.results, w.latch, w.store, w.events.posted)) :
    Settles outcome reason chosen s s' := by
  subst hl
  have ended : (allTags.filter chosen).filter (fun t => (s.tag t).ends)
      = (allTags.filter (fun t => chosen t && (s.tag t).state.inOrderList)).filter (fun t => !(s.tag t).posted) := by
    rw [List.filter_filter, List.filter_filter]
    refine List.filter_congr fun t _ => ?_
    rw [TagRecord.ends, Bool.and_comm, Bool.and_comm (!(s.tag t).posted), Bool.and_assoc]
  have failed : (allTags.filter chosen).filter (fun t => (s.tag t).fails)
      = (allTags.filter (fun t => chosen t && (s.tag t).state.inOrderList)).filter (fun t => (s.tag t).posted) := by
    rw [List.filter_filter, List.filter_filter]
    refine List.filter_congr fun t _ => ?_
    rw [TagRecord.fails, Bool.and_comm, Bool.and_comm (s.tag t).posted, Bool.and_assoc]
  have freed : (allTags.filter chosen).filter (fun t => (s.tag t).letsGo)
      = allTags.filter (fun t => chosen t && ((s.tag t).state = .orphaned
        || ((allTags.filter (fun t => chosen t && (s.tag t).state.inOrderList)).filter
          (fun t => (s.tag t).posted)).contains t)) := by
    rw [List.filter_filter]
    refine List.filter_congr fun t _ => ?_
    simp only [TagRecord.letsGo, TagRecord.fails, List.contains_eq_mem, List.mem_filter, mem_allTags, true_and]
    cases chosen t <;> simp
  obtain ⟨results, latch, chunks, free, events⟩ := h
  rw [ended] at results
  rw [failed] at latch events
  rw [freed] at free
  simp only [Prod.mk.injEq] at same
  obtain ⟨results', latch', store', posted'⟩ := same
  exact ⟨tags, results'.trans results, latch'.trans latch, by rw [store', chunks], fun c => by rw [store', free],
    by rw [posted', events]⟩

/-! ## The lists -/

/-- With exact lists a settled tag leaves the queues, if it stood in them. -/
theorem queues_settleTag {s : State} (h : ListsExact s) (outcome : TxOutcome) (reason : PostedReason) (t : Tag) :
    (settleTag outcome reason t s).dispatchQueue = s.dispatchQueue.filter (fun x => decide (x ≠ t))
      ∧ (settleTag outcome reason t s).owedCancels = s.owedCancels.filter (fun x => decide (x ≠ t)) := by
  have silent (out : (s.tag t).state.inOrderList = false) :
      s.dispatchQueue = s.dispatchQueue.filter (fun x => decide (x ≠ t))
        ∧ s.owedCancels = s.owedCancels.filter (fun x => decide (x ≠ t)) :=
    ⟨(filter_ne_of_not_mem (h.not_mem_dispatchQueue fun e => by rw [e] at out; cases out)).symm,
      (filter_ne_of_not_mem (h.not_mem_owedCancels fun e => by rw [e] at out; cases out)).symm⟩
  obtain ⟨hs, e⟩ | ⟨hs, e⟩ | ⟨hs, e⟩ | ⟨hs, hp, e⟩ | ⟨hs, hp, e⟩ := settleTag_cases outcome reason t s <;> rw [e]
  · exact silent (by rw [hs]; rfl)
  · exact silent (by rw [hs]; rfl)
  · exact ⟨Fate.dispatchQueue_act _ t s, Fate.owedCancels_act _ t s⟩
  · exact ⟨Fate.dispatchQueue_act _ t (reportPosted t reason s), Fate.owedCancels_act _ t (reportPosted t reason s)⟩
  · exact ⟨Fate.dispatchQueue_act _ t s, Fate.owedCancels_act _ t s⟩

/-- With exact lists the tags of a settled list leave the queues. -/
theorem queues_settleList {s : State} (h : ListsExact s) (outcome : TxOutcome) (reason : PostedReason)
    (l : List Tag) :
    (settleList outcome reason l s).dispatchQueue
        = s.dispatchQueue.filter (fun x => decide (x ∉ l))
      ∧ (settleList outcome reason l s).owedCancels
        = s.owedCancels.filter (fun x => decide (x ∉ l)) := by
  induction l generalizing s with
  | nil => simp [settleList]
  | cons a l ih =>
    obtain ⟨queue, cancels⟩ := queues_settleTag h outcome reason a
    obtain ⟨queue', cancels'⟩ := ih (h.after_settleTag outcome reason a)
    have both (q : List Tag) : (q.filter (fun x => decide (x ≠ a))).filter (fun x => decide (x ∉ l))
        = q.filter (fun x => decide (x ∉ a :: l)) := by
      rw [List.filter_filter]
      refine List.filter_congr fun x _ => ?_
      simp [Bool.and_comm]
    rw [settleList_cons, queue', cancels', queue, cancels, both, both]
    exact ⟨rfl, rfl⟩

/-- The settlement of a unit's tags is that of the list of them. -/
theorem settleUnitTags_eq (u : UnitNo) (s : State) :
    settleUnitTags u s
      = settleList .unitGone .unitGone (allTags.filter (fun t => decide ((s.tag t).unit = u))) s := by
  unfold settleUnitTags
  have nodup := nodup_allTags
  generalize allTags = l at nodup
  induction l generalizing s with
  | nil => rfl
  | cons a l ih =>
    obtain ⟨ha, hl⟩ := List.nodup_cons.mp nodup
    have others : l.filter (fun t => decide (((settleTag .unitGone .unitGone a s).tag t).unit = u))
        = l.filter (fun t => decide ((s.tag t).unit = u)) :=
      List.filter_congr fun x hx => by rw [tag_settleTag, if_neg fun e => ha (by rwa [← e])]
    rw [List.foldl_cons, ih _ hl, List.filter_cons]
    by_cases hu : (s.tag a).unit = u
    · rw [if_pos hu, if_pos (decide_eq_true hu), settleList_cons, others]
    · rw [if_neg hu, if_neg (by simpa using hu)]

/-! ## Link loss -/

theorem settleAllTags_settled (s : State) : SettledList .linkLost .linkLost allTags s (settleAllTags s) :=
  settledList_settleList _ _ nodup_allTags s

theorem latch_linkLoss (reason : LossReason) (s : State) : (linkLoss reason s).latch = (settleAllTags s).latch := by
  rw [linkLoss_eq]

theorem present_settleAllTags (s : State) (v : UnitNo) : ((settleAllTags s).unit v).present = (s.unit v).present :=
  (unitKept_settleAllTags s v).present

/-- The event unit after link loss: LINK, UNIT where a unit was PRESENT, and POSTED where a posted tag failed. -/
theorem events_linkLoss (reason : LossReason) (s : State) :
    (linkLoss reason s).events = { s.events with
      link := true, unit := s.events.unit || allUnits.any (fun u => (s.unit u).present)
      posted := (settleAllTags s).events.posted } := by
  have present : anyPresent (loseTags s) = allUnits.any (fun u => (s.unit u).present) := by
    refine congrArg (List.any allUnits) (funext fun v => ?_)
    rw [loseTags_unit]
    exact present_settleAllTags s v
  have events := (settleAllTags_settled s).events
  rw [linkLoss_eq, present]
  simp only [events]

theorem posted_afterAppends (before after : Nat) (e : EventUnit) : (e.afterAppends before after).posted = e.posted := by
  unfold EventUnit.afterAppends
  split <;> rfl

/-- Every unit's record after link loss, from the one before it. -/
theorem unit_linkLoss_eq (reason : LossReason) (v : UnitNo) (s : State) :
    (linkLoss reason s).unit v =
      { replyTimeout := (s.unit v).replyTimeout, masked := (s.unit v).masked
        held := (s.unit v).held.map (fun a => { a with ackDue := false }) } := by
  rw [unit_linkLoss, (unitKept_settleAllTags s v).1]
  rfl

/-- Every block settles its part of a link loss (R17, R62, R85, R96, R110, R129). -/
theorem linkLost_linkLoss (reason : LossReason) (s : State) :
    LinkLost reason (lossTarget reason) s { linkLoss reason s with
      events := (linkLoss reason s).events.afterAppends s.results.length (linkLoss reason s).results.length } := by
  have settled := settleAllTags_settled s
  have events := events_linkLoss reason s
  have frame := linkLoss_eq reason s
  have inner := settleAllTags_frame s
  have queue : (linkLoss reason s).attnQueue
      = s.attnQueue.map (fun r => { r with attn := { r.attn with ackDue := false } }) := by
    have h : (settleAllTags s).attnQueue = s.attnQueue := by
      generalize settleAllTags s = w at inner
      rw [inner]
    rw [linkLoss_eq, h]
  have store := store_linkLoss reason s
  have latch := latch_linkLoss reason s
  have results := results_linkLoss reason s
  have tags (t : Tag) := tag_linkLoss reason t s
  have dispatch := dispatchQueue_linkLoss reason s
  have cancels := owedCancels_linkLoss reason s
  have units (v : UnitNo) := unit_linkLoss_eq reason v s
  have link := link_linkLoss reason s
  generalize linkLoss reason s = w at *
  generalize settleAllTags s = v at *
  refine ⟨settles_of_list settled (by simp) tags ?_, dispatch, cancels, units, queue, link, ?_, ?_⟩
  · simp only [Prod.mk.injEq, posted_afterAppends]
    exact ⟨results, latch, store, by rw [events]⟩
  · simp only [posted_afterAppends]
    rw [events]
  · rw [inner] at frame
    rw [frame]

/-- The answer of an event that is a link loss. -/
theorem answers_linkLost {s w : State} {effect : State → State} {reason : LossReason} (released : s.resetAsserted = false)
    (he : effect s = linkLoss reason w) (results : w.results = s.results) :
    Answers (takeEvent effect s) (LinkLost reason (lossTarget reason) w) := by
  refine ⟨_, takeEvent_of_released released effect, ?_⟩
  rw [he, ← results]
  exact linkLost_linkLoss reason w

/-- A stopped discovery timer before the loss makes no difference to it. -/
theorem LinkLost.of_stopped {reason : LossReason} {target : LinkState} {s t : State}
    (h : LinkLost reason target { s with link := { s.link with discoveryTimer := none } } t) :
    LinkLost reason target s t := h

theorem receiveTrain_of_session {s : State} (h : InSession s) : receiveTrain s = linkLoss .farRestart s := by
  unfold receiveTrain
  obtain h | h := h <;> simp only [h]

/-- Settles O29: each cause is link loss in the states it applies to, and nothing, or the stop of the timer, in the others. -/
theorem linkLossSettlesEveryBlock : Obligations.LinkLossSettlesEveryBlock := by
  intro s epoch released
  refine ⟨fun session => ⟨?_, ?_⟩, fun idle => takeEvent_next released (loseEstablished_of_not idle _) (Nat.le_refl _),
    fun discovery running => ?_, fun other => takeEvent_next released ?_ (Nat.le_refl _),
    fun stopped => takeEvent_next released ?_ (Nat.le_refl _)⟩
  · exact answers_linkLost released (loseEstablished_of_session session _) rfl
  · exact answers_linkLost released (receiveTrain_of_session session) rfl
  · have effect : expireDiscoveryTimer s
        = linkLoss .discoveryTimeout { s with link := { s.link with discoveryTimer := none } } := by
      unfold expireDiscoveryTimer
      split
      · next stopped =>
        rw [stopped] at running
        cases running
      · exact if_pos discovery
    obtain ⟨t, answer, lost⟩ := answers_linkLost released effect rfl
    exact ⟨t, answer, lost.of_stopped⟩
  · unfold expireDiscoveryTimer
    cases timer : s.link.discoveryTimer with
    | none =>
      simp only
      rw [← timer]
    | some setting =>
      simp only [if_neg other]
      rfl
  · simp only [expireDiscoveryTimer, stopped]

/-! ## UNIT-GONE -/

/-- A UNIT-GONE for a PRESENT unit, from the state in which the unit's tags are settled (R94, R109). -/
theorem takeUnitGone_of_present {u : UnitNo} {s : State} (present : (s.unit u).present = true) :
    takeUnitGone u s = { updUnit u goneUnit (settleUnitTags u s) with
      attnQueue := goneQueue u (settleUnitTags u s).attnQueue
      events := { (settleUnitTags u s).events with unit := true } } := by
  rw [takeUnitGone, if_pos present]
  generalize settleUnitTags u s = w
  rfl

theorem settleUnitTags_settled (u : UnitNo) (s : State) :
    SettledList .unitGone .unitGone (allTags.filter (fun t => decide ((s.tag t).unit = u))) s (settleUnitTags u s) := by
  rw [settleUnitTags_eq]
  exact settledList_settleList _ _ (nodup_allTags.filter _) s

theorem settleUnitTags_frame (u : UnitNo) (s : State) :
    settleUnitTags u s = { s with
      tags := (settleUnitTags u s).tags, units := (settleUnitTags u s).units, results := (settleUnitTags u s).results
      store := (settleUnitTags u s).store, latch := (settleUnitTags u s).latch, events := (settleUnitTags u s).events
      dispatchQueue := (settleUnitTags u s).dispatchQueue, owedCancels := (settleUnitTags u s).owedCancels } := by
  rw [settleUnitTags_eq]
  exact settleList_frame _ _ _ s

theorem queues_settleUnitTags {s : State} (h : ListsExact s) (u : UnitNo) :
    (settleUnitTags u s).dispatchQueue = s.dispatchQueue.filter (fun x => decide ((s.tag x).unit ≠ u))
      ∧ (settleUnitTags u s).owedCancels = s.owedCancels.filter (fun x => decide ((s.tag x).unit ≠ u)) := by
  have member (q : List Tag) : q.filter (fun x => decide (x ∉ allTags.filter (fun t => decide ((s.tag t).unit = u))))
      = q.filter (fun x => decide ((s.tag x).unit ≠ u)) :=
    List.filter_congr fun x _ => by simp [mem_allTags]
  rw [settleUnitTags_eq, ← member, ← member]
  exact queues_settleList h _ _ _

/-- Settles O43: the unit's tags are those of a list that is settled, and the other units stand still. -/
theorem unitGoneSettlesUnit : Obligations.UnitGoneSettlesUnit := by
  intro s h u inOrder exact present
  have effect : receiveMessage h (.unitGone u) s = takeUnitGone u (delivered s) := receiveMessage_of_inOrder inOrder _
  rw [takeUnitGone_of_present (s := delivered s) present] at effect
  have tags (t : Tag) := tag_settleUnitTags u t (delivered s)
  have others (v : UnitNo) (hv : v ≠ u) := unit_settleUnitTags_of_ne hv (delivered s)
  have own := (unitKept_settleUnitTags u (delivered s) u).1
  have settled := settleUnitTags_settled u (delivered s)
  have frame := settleUnitTags_frame u (delivered s)
  obtain ⟨dispatch, cancels⟩ := queues_settleUnitTags exact.after_delivered u
  refine ⟨_, takeEvent_of_released inOrder.1 _, ?_⟩
  rw [effect]
  generalize settleUnitTags u (delivered s) = w at *
  have attn : w.attnQueue = s.attnQueue := by rw [frame]; rfl
  have events := settled.events
  have settles : Settles .unitGone .unitGone (fun x => decide ((s.tag x).unit = u)) (delivered s) w := by
    refine settles_of_list settled rfl (fun t => ?_) rfl
    rw [tags]
    simp only [decide_eq_true_eq]
    rfl
  refine ⟨?_, dispatch, cancels, fun v => ?_, ?_, ?_, ?_⟩
  · obtain ⟨tags, results, latch, chunks, free, posted⟩ := settles
    refine ⟨tags, results, latch, chunks, free, ?_⟩
    rw [posted_afterAppends]
    exact posted
  · refine (unit_updUnit u v goneUnit w).trans ?_
    split
    · rw [own]
      rfl
    · next hv => exact others v hv
  · change goneQueue u w.attnQueue = _
    rw [attn]
    refine List.map_congr_left fun r _ => ?_
    split
    · next hr => rw [← hr]; rfl
    · rfl
  · simp only [posted_afterAppends]
    rw [events]
    rfl
  · rw [attn]
    conv => lhs; rw [frame]
    rfl

end Sys2Proof.Machine
end


section
/-! SUPPORT. The takes of new message frames (O47). -/

namespace Sys2Proof.Machine

/-- New message frames are admitted and no item above them applies (R57, R58). -/
structure Admitting (s : State) : Prop where
  idle : s.link.transmitter = none
  noNak : s.link.recv.nakOwed = false
  noAck : s.link.recv.ackOwed = false
  up : s.link.state = .up
  room : s.link.send.replayList.length < 8
  noPass : s.link.send.pass = none

/-- With new message frames admitted the arbiter looks for an ATTENTION-ACK, a CANCEL and a REQUEST, in this order. -/
theorem arbiterChoice_of_admitting {s : State} (h : Admitting s) :
    arbiterChoice s =
      if (ackOwedUnit s).isSome then some .attentionAck
      else if !s.owedCancels.isEmpty then some .cancel
      else if (dispatchChoice s).isSome then some .request
      else none := by
  obtain ⟨idle, noNak, noAck, up, room, noPass⟩ := h
  have admits : admitted s = true := by simp [admitted, up, Config.replayListLimit, room, noPass]
  have train : applies s .train = false := by simp [applies, up]
  have replay : applies s .replay = false := by simp [applies, replayFrame, noPass]
  have ack : applies s .ack = false := by simp [applies, noAck]
  rw [arbiterChoice_eq, idle, train, replay, ack]
  simp [applies, noNak, admits]

/-- In an ascending list the first unit that holds a value is the least. -/
theorem findSome?_eq_some_of_least {β : Type} {l : List UnitNo} (hl : l.Pairwise (· < ·)) {f : UnitNo → Option β}
    {u : UnitNo} {b : β} (hu : u ∈ l) (hf : f u = some b) (least : ∀ v, v < u → f v = none) :
    l.findSome? f = some b := by
  induction l with
  | nil => cases hu
  | cons a l ih =>
    obtain ⟨ha, hl⟩ := List.pairwise_cons.mp hl
    obtain rfl | hu := List.mem_cons.mp hu
    · rw [List.findSome?_cons, hf]
    · rw [List.findSome?_cons, least a (ha u hu)]
      exact ih hl hu

theorem ackOwedUnit_of_least {s : State} {u : UnitNo} {number : Byte} (owed : (s.unit u).ackOwed = some number)
    (least : ∀ v, v < u → (s.unit v).ackOwed = none) : ackOwedUnit s = some (u, number) :=
  findSome?_eq_some_of_least (List.pairwise_lt_finRange 16) (List.mem_finRange u) (by rw [owed]; rfl) fun v hv => by
    rw [least v hv]
    rfl

theorem ackOwedUnit_of_none {s : State} (h : ∀ v, (s.unit v).ackOwed = none) : ackOwedUnit s = none := by
  rw [ackOwedUnit, List.findSome?_eq_none_iff]
  intro v _
  rw [h]
  rfl

/-- Settles O47: each take is the arbiter's choice, and its effect is the new frame and the tag's or unit's part. -/
theorem messageTakesSendFrames : Obligations.MessageTakesSendFrames := by
  intro s t u number released idle noNak noAck up room noPass sent r timeout noneOwed
  have choice := arbiterChoice_of_admitting ⟨idle, noNak, noAck, up, room, noPass⟩
  refine ⟨fun owed least => takeEvent_next released ?_ (Nat.le_refl _),
    fun none head => takeEvent_next released ?_ (Nat.le_refl _),
    fun none empty offered => takeEvent_next released ?_ (Nat.le_refl _)⟩
  · have first := ackOwedUnit_of_least owed least
    rw [first] at choice
    rw [takeItem_of_eq choice, takeAttentionAckItem, first]
    rfl
  · obtain ⟨rest, queue⟩ := List.head?_eq_some_iff.mp head
    rw [ackOwedUnit_of_none none, queue] at choice
    rw [takeItem_of_eq choice]
    unfold takeCancelItem
    split
    · next h => cases h.symm.trans queue
    · next h =>
      cases h.symm.trans queue
      rw [queue]
      rfl
  · have offered : dispatchChoice s = some t := offered
    rw [ackOwedUnit_of_none none, empty, offered] at choice
    rw [takeItem_of_eq choice, takeRequestItem, offered]
    rfl

end Sys2Proof.Machine
end

section
/-! SUPPORT. The state after reset: every tag is blank, every unit ABSENT, every list empty and every count at its start
(O60). -/

namespace Sys2Proof.Machine

theorem listsExact_reset : ListsExact State.reset := by
  have queue : State.reset.dispatchQueue = [] := rfl
  have cancels : State.reset.owedCancels = [] := rfl
  refine ⟨⟨List.nodup_nil, fun t => ?_⟩, fun v => ?_, fun v => ?_, List.nodup_nil, fun t => ?_, fun t => ?_⟩
  · simp [queue, tag_reset]
  · rw [unit_reset]
    exact ⟨List.nodup_nil, fun t => by simp [tag_reset, TagState.inOrderList]⟩
  · rw [unit_reset]
    exact List.Pairwise.nil
  · simp [cancels, tag_reset]
  · simp [tag_reset]

theorem resultQueueExact_reset : ResultQueueExact State.reset := by
  have results : State.reset.results = [] := rfl
  exact ⟨List.nodup_nil, fun t => by simp [results, tag_reset]⟩

theorem chunksAccounted_reset : ChunksAccounted State.reset := by
  refine ⟨fun t => ?_, fun t t' c hc => ?_, fun c => ?_, fun t => ?_⟩
  · rw [tag_reset]
    exact List.Pairwise.nil
  · rw [tag_reset] at hc
    cases hc
  · have free : State.reset.store.free.get c = true := by simp [State.reset, Vector.get_eq_getElem]
    simp [free, tag_reset]
  · rw [tag_reset]
    rfl

theorem creditsExact_reset : CreditsExact State.reset := by
  intro v
  have none : owedCount State.reset v = 0 := by simp [owedCount, tag_reset, TagRecord.owed]
  rw [none, unit_reset]
  exact ⟨rfl, Nat.le_refl _, fun _ => rfl⟩

theorem quietAndSound_reset : QuietAndSound State.reset where
  quiet _ x := by
    rw [tag_reset]
    exact .inl rfl
  sound v := by
    rw [unit_reset]
    exact ⟨fun _ => ⟨rfl, rfl, rfl, rfl, rfl, rfl, rfl⟩, nofun⟩
  absent _ v := by rw [unit_reset]

theorem statesSound_reset : StatesSound State.reset := by
  intro t
  rw [tag_reset]
  exact ⟨nofun, nofun, nofun, nofun, nofun, nofun⟩

theorem tagTimersSound_reset : TagTimersSound State.reset := by
  intro t
  rw [tag_reset]
  exact trivial

theorem sendSideSound_reset : SendSideSound State.reset := by
  refine ⟨by decide, fun i f hf => ?_, nofun, by decide, by decide, fun _ => rfl⟩
  cases hf

theorem linkTimersSound_reset : LinkTimersSound State.reset := by
  unfold LinkTimersSound
  decide

theorem attentionsSound_reset : AttentionsSound State.reset := by
  refine ⟨List.nodup_nil, nofun, fun u a ha => ?_⟩
  rw [unit_reset] at ha
  cases ha

theorem lengthsInRange_reset : LengthsInRange State.reset := by
  intro t
  rw [tag_reset]
  decide

/-- Settles O60: condition by condition. -/
theorem invariantsHoldAtReset : Obligations.InvariantsHoldAtReset := by
  obtain ⟨quiet, directory⟩ := (quietAndSound_iff State.reset).mp quietAndSound_reset
  exact ⟨listsExact_reset, resultQueueExact_reset, fun t _ => tag_reset t,
    marksReleased_of_empty fun v => by rw [unit_reset], statesSound_reset, tagTimersSound_reset, chunksAccounted_reset,
    creditsExact_reset, quiet, directory, sendSideSound_reset, linkTimersSound_reset, ⟨rfl, rfl⟩, attentionsSound_reset,
    by unfold CountsInRange; decide, lengthsInRange_reset, fun _ => ⟨rfl, rfl⟩⟩

end Sys2Proof.Machine
end


section
/-! SUPPORT. A COMPLETE tag's record and data, and the records of the result queue, through every event of the tag table
(O6). -/

namespace Sys2Proof.Machine

/-! ## The record and the data of a COMPLETE tag (R45) -/

/-- A record as it may be altered while its tag stays in COMPLETE. -/
def SameButDebt (r r' : TagRecord) : Prop := r' = { r with popped := r'.popped, farReplyPending := r'.farReplyPending }

theorem SameButDebt.refl (r : TagRecord) : SameButDebt r r := rfl

/-- Between two states a tag that is COMPLETE in both keeps its record, popped and far-reply-pending apart, and every word
of its chunks. -/
def StandsStill (x : Tag) (s s' : State) : Prop :=
  (s.tag x).state = .complete → (s'.tag x).state = .complete →
    SameButDebt (s.tag x) (s'.tag x) ∧ ∀ k ∈ (s.tag x).chunkList, s'.store.chunks.get k = s.store.chunks.get k

theorem ChunksAccounted.of_same {s s' : State} (h : ChunksAccounted s) (tags : ∀ x, s'.tag x = s.tag x)
    (store : s'.store = s.store) : ChunksAccounted s' := by
  obtain ⟨ascending, disjoint, free, held⟩ := h
  refine ⟨fun t => ?_, fun t t' c hc hc' => ?_, fun c => ?_, fun t => ?_⟩
  · rw [tags]
    exact ascending t
  · rw [tags] at hc hc'
    exact disjoint t t' c hc hc'
  · rw [store, free]
    exact forall_congr' fun t => by rw [tags]
  · rw [tags]
    exact held t

/-- A chunk that is reserved for a new tag is no tag's yet (R38). -/
theorem ChunksAccounted.not_reserved {s : State} (h : ChunksAccounted s) {x : Tag} {k : ChunkNo} (n : Nat)
    (hk : k ∈ (s.tag x).chunkList) : k ∉ (freeChunks s.store).take n := fun hm => by
  obtain ⟨-, -, free, -⟩ := h
  exact (free k).mp ((mem_freeChunks k s.store).mp (List.mem_of_mem_take hm)) x hk

theorem chunks_reserveStore_of_not_mem {cs : List ChunkNo} {c : ChunkNo} (h : c ∉ cs) (k : Kind) (payload : List Word)
    (b : BufferStore) : (reserveStore k cs payload b).chunks.get c = b.chunks.get c := by
  unfold reserveStore
  split
  · rw [chunks_writePlaces_of_not_mem h]
    rfl
  · rfl

theorem store_placeTag (t : Tag) (k : Kind) (s : State) : (placeTag t k s).store = s.store := by
  obtain ⟨-, e⟩ | ⟨-, -, e⟩ | ⟨-, -, e⟩ := placeTag_cases t k s <;> rw [e]
  · rfl
  · exact Fate.store_act (.complete markEnding) t s
  · rfl

theorem chunks_act (f : Fate) (t : Tag) (s : State) : (f.act t s).store.chunks = s.store.chunks := by
  rw [f.store_act, chunks_putChunks]

/-- An event that touches one tag, which is not COMPLETE both before and after it, and no chunk but that tag's own. -/
theorem standsStill_of_one {s s' : State} {t x : Tag} (others : x ≠ t → s'.tag x = s.tag x)
    (own : (s.tag t).state = .complete → (s'.tag t).state = .complete → SameButDebt (s.tag t) (s'.tag t))
    (chunks : (s.tag x).state = .complete → ∀ k ∈ (s.tag x).chunkList, s'.store.chunks.get k = s.store.chunks.get k) :
    StandsStill x s s' := by
  intro hs hs'
  refine ⟨?_, chunks hs⟩
  by_cases hx : x = t
  · subst hx
    exact own hs hs'
  · rw [others hx]
    exact .refl _

theorem not_complete_of_live {r : TagRecord} (live : r.state.inOrderList = true) : r.state ≠ .complete := fun e => by
  rw [e] at live
  cases live

/-- What touches a live tag leaves the data of a COMPLETE one. -/
theorem Touches.chunks_complete {t x : Tag} {s s' : State} (h : Touches t s s') (live : (s.tag t).state.inOrderList = true)
    (accounted : ChunksAccounted s) (complete : (s.tag x).state = .complete) (k : ChunkNo)
    (hk : k ∈ (s.tag x).chunkList) : s'.store.chunks.get k = s.store.chunks.get k := by
  obtain ⟨-, disjoint, -, -⟩ := accounted
  refine h.chunks k fun hk' => not_complete_of_live live ?_
  rw [← disjoint x t k hk hk']
  exact complete

theorem sameButDebt_settledRecord {r : TagRecord} (complete : r.state = .complete) (outcome : TxOutcome) :
    SameButDebt r (settledRecord outcome r) := by
  have e : settledRecord outcome r = { r with farReplyPending := false } := by
    unfold settledRecord
    split <;> simp_all
  rw [e]
  exact rfl

theorem TagEvent.standsStill {c : Instr} {s s' : State} (he : TagEvent c s s') (hl : ListsExact s)
    (accounted : ChunksAccounted s) (x : Tag) : StandsStill x s s' := by
  have absurd_state {P : Prop} {t : Tag} {p : TagState} (h : (s.tag t).state = p) (hp : p ≠ .complete)
      (complete : (s.tag t).state = .complete) : P := absurd (h.symm.trans complete) hp
  cases he with
  | still => exact fun _ _ => ⟨.refl _, fun _ _ => rfl⟩
  | @submitted k t check kind lowest =>
    have fresh := fresh_fillTag t k s
    refine standsStill_of_one (t := t) (fun hx => by rw [tag_placeTag t x k _ hx, fresh.others x hx])
      (fun h => absurd_state (free_of_lowestFreeTag lowest) (by decide) h) fun _ c hc => ?_
    rw [store_placeTag]
    exact chunks_reserveStore_of_not_mem (accounted.not_reserved _ hc) k _ _
  | @popped r rest queue command =>
    refine standsStill_of_one (t := r.tag) (fun hx => tag_updTag_of_ne hx _ { s with results := rest }) (fun _ _ => ?_)
      fun _ _ _ => rfl
    rw [tag_updTag_self]
    exact rfl
  | @released t complete popped =>
    refine standsStill_of_one (t := t) (fun hx => by rw [Fate.tag_act, if_neg hx]) (fun _ h => ?_) fun _ k _ => by
      rw [chunks_act]
    rw [Fate.tag_act, if_pos rfl] at h
    split at h <;> cases h
  | @touched s' t live touch =>
    exact standsStill_of_one (touch.others x) (fun h => absurd h (not_complete_of_live live))
      (touch.chunks_complete live accounted)
  | @segment s' t state posted touch =>
    have live := inOrderList_of_inFlight state
    exact standsStill_of_one (fun hx => by rw [tag_updTag_of_ne hx, touch.others x hx])
      (fun h => absurd h (not_complete_of_live live)) (touch.chunks_complete live accounted)
  | @cancelling t cause state =>
    refine standsStill_of_one (t := t) (fun hx => by rw [tag_enterCancelling, if_neg hx]) (fun h => ?_) fun _ _ _ => rfl
    obtain e | e | e := state <;> exact absurd_state e (by decide) h
  | @departed s' t f live touch fits =>
    intro complete _
    have hx : x ≠ t := fun e => not_complete_of_live live (e ▸ complete)
    have before : (creditFor f t s').tag x = s.tag x := by rw [tag_creditFor, touch.others x hx]
    refine ⟨?_, fun k hk => ?_⟩
    · obtain ⟨e, -⟩ | ⟨-, waiting, -⟩ | ⟨-, e⟩ := state_depart f t x (creditFor f t s')
      · exact absurd e hx
      · rw [before] at waiting
        exact absurd_state waiting (by decide) complete
      · rw [e, before]
        exact .refl _
    · rw [f.depart_eq, creditFor_eq]
      exact touch.chunks_complete live accounted complete k hk
  | @freed t orphaned =>
    exact standsStill_of_one (t := t) (fun hx => by rw [Fate.tag_act, if_neg hx]; rfl)
      (fun h => absurd_state orphaned (by decide) h) fun _ k _ => by rw [chunks_act]; rfl
  | @paid t complete owed =>
    refine standsStill_of_one (t := t) (fun hx => tag_updTag_of_ne hx _ _) (fun _ _ => ?_) fun _ _ _ => rfl
    rw [tag_updTag_self]
    exact rfl
  | @requested t choice =>
    exact standsStill_of_one (t := t) (fun hx => by rw [tag_sendRequest, if_neg hx])
      (fun h => absurd_state (eligible_of_dispatchChoice choice).queued (by decide) h) fun _ _ _ => rfl
  | @cancelSent t rest head =>
    refine standsStill_of_one (t := t) (fun hx => by rw [tag_sendCancel, if_neg hx]) (fun h => ?_) fun _ _ _ => rfl
    obtain ⟨-, mem, state⟩ := hl.cancels
    exact absurd_state (state t ((mem t).mp (by simp [head]))) (by decide) h
  | reported session accepted => exact fun _ _ => ⟨.refl _, fun _ _ => rfl⟩
  | @unitGone u present =>
    have tags := tag_settleUnitTags u x s
    have chunks := (settleUnitTags_settled u s).chunks
    generalize settleUnitTags u s = w at tags chunks ⊢
    intro complete _
    refine ⟨?_, fun k _ => ?_⟩
    · rw [updUnit_tag, tags]
      split
      · exact sameButDebt_settledRecord complete _
      · exact .refl _
    · rw [updUnit_store, chunks]
  | linkLost reason =>
    intro complete _
    refine ⟨?_, fun k _ => ?_⟩
    · rw [tag_linkLoss]
      exact sameButDebt_settledRecord complete _
    · rw [store_linkLoss, (settleAllTags_settled s).chunks]
  | reset command after =>
    intro _ h
    rw [after.tag] at h
    cases h

/-! ## The records of the result queue (R21) -/

theorem results_placeTag (t : Tag) (k : Kind) (s : State) : s.results <+: (placeTag t k s).results := by
  obtain ⟨-, e⟩ | ⟨-, -, e⟩ | ⟨-, -, e⟩ := placeTag_cases t k s <;> rw [e]
  · exact List.prefix_refl _
  · exact ⟨_, rfl⟩
  · exact List.prefix_refl _

theorem TagEvent.results {c : Instr} {s s' : State} (he : TagEvent c s s') (hc : c.wellFormed = true) :
    s.results <+: s'.results ∨ ((∃ operand, c = .popResult operand) ∧ s'.results = s.results.tail)
      ∨ (isReset c = true ∧ s'.results = []) := by
  have same {w : State} (h : w.results = s.results) : s.results <+: w.results := h ▸ List.prefix_refl _
  cases he with
  | still => exact .inl (same rfl)
  | submitted check kind lowest => exact .inl (results_placeTag _ _ (fillTag _ _ s))
  | popped queue command =>
    right; left
    refine ⟨command.resolve_right (by simp [hc]), ?_⟩
    rw [queue]
    rfl
  | released complete popped =>
    left
    rw [Fate.results_act]
    exact List.prefix_append _ _
  | touched live touch => exact .inl (same touch.results)
  | segment state posted touch => exact .inl (same touch.results)
  | cancelling cause state => exact .inl (same rfl)
  | departed live touch fits =>
    left
    rw [results_depart, results_creditFor, touch.results, List.append_assoc]
    exact List.prefix_append _ _
  | @freed t orphaned =>
    left
    rw [Fate.results_act]
    exact List.prefix_append _ _
  | paid complete owed => exact .inl (same rfl)
  | requested choice => exact .inl (same rfl)
  | cancelSent head => exact .inl (same rfl)
  | reported session accepted => exact .inl (same rfl)
  | @unitGone u present =>
    left
    rw [updUnit_results, (settleUnitTags_settled u s).results]
    exact List.prefix_append _ _
  | linkLost reason =>
    left
    rw [results_linkLoss, (settleAllTags_settled s).results]
    exact List.prefix_append _ _
  | reset command after =>
    right; right
    exact ⟨command.resolve_right (by simp [hc]), after.results⟩

/-- Settles O6: by the one event of the tag table that a command is. -/
theorem completedTagsStandStill : Obligations.CompletedTagsStandStill := by
  intro s c x hc exact accounted
  refine answers_of_happens fun t ⟨a, b, ha, hab, hb⟩ => ?_
  have still := hab.standsStill (exact.aside ha) (accounted.of_same ha.tag ha.store) x
  unfold StandsStill at still
  rw [ha.tag, ← hb.tag, ha.store, ← hb.store] at still
  have results := hab.results hc
  rw [ha.results, ← hb.results] at results
  exact ⟨still, results⟩

end Sys2Proof.Machine
end


section
/-! SUPPORT. Every register's fields, each at its place (O53). -/

namespace Sys2Proof.Machine

/-! ## Fields side by side -/

theorem field_zero (n : Nat) : field 0 n = BitVec.ofNat 16 n := by rw [field_eq, Nat.pow_zero, Nat.one_mul]

theorem flag_zero (b : Bool) : flag 0 b = BitVec.ofNat 16 b.toNat := field_zero b.toNat

/-- Two fields, the lower one ending below the upper one. -/
theorem two_fields {low b : Nat} (h : b < 2 ^ low) (a : Nat) :
    field low a ||| field 0 b = BitVec.ofNat 16 (2 ^ low * a + b) := by
  rw [field_eq, field_zero, ofNat_or_ofNat h]

/-- Three fields, each ending below the one above it. -/
theorem three_fields {high low b c : Nat} (hc : c < 2 ^ low) (hb : 2 ^ low * b + c < 2 ^ high) (a : Nat) :
    field high a ||| field low b ||| field 0 c = BitVec.ofNat 16 (2 ^ high * a + 2 ^ low * b + c) := by
  rw [BitVec.or_assoc, two_fields hc, field_eq, ofNat_or_ofNat hb, Nat.add_assoc]

/-- Four fields, each ending below the one above it. -/
theorem four_fields {top high low b c d : Nat} (hd : d < 2 ^ low) (hc : 2 ^ low * c + d < 2 ^ high)
    (hb : 2 ^ high * b + 2 ^ low * c + d < 2 ^ top) (a : Nat) :
    field top a ||| field high b ||| field low c ||| field 0 d
      = BitVec.ofNat 16 (2 ^ top * a + 2 ^ high * b + 2 ^ low * c + d) := by
  rw [BitVec.or_assoc, BitVec.or_assoc, ← BitVec.or_assoc (field high b), three_fields hd hc, field_eq, ofNat_or_ofNat hb,
    Nat.add_assoc, Nat.add_assoc, Nat.add_assoc]

theorem ofNat_toNat_halfword (v : Halfword) : v = BitVec.ofNat 16 v.toNat := by simp

theorem toNat_append_ofBool {w : Nat} (v : BitVec w) (b : Bool) :
    (v ++ BitVec.ofBool b).toNat = 2 * v.toNat + b.toNat := by
  rw [BitVec.toNat_append, Nat.shiftLeft_eq, BitVec.toNat_ofBool, Nat.mul_comm (v.toNat), ← Nat.two_pow_add_eq_or_of_lt]
  cases b <;> decide

/-- The seven flags of EVENTS as a number (Table 11.1). -/
theorem toNat_eventFlags (s : State) :
    (eventFlags s).toNat = s.events.result.toNat + 2 * (!s.attnQueue.isEmpty).toNat + 4 * s.events.link.toNat
      + 8 * s.events.unit.toNat + 16 * s.events.posted.toNat + 32 * s.events.proto.toNat + 64 * s.events.access.toNat := by
  simp only [eventFlags, attnFlag, toNat_append_ofBool, BitVec.toNat_ofBool]
  omega

/-- The two halves of a word are the word. -/
theorem highHalf_append_lowHalf (w : Word) : (highHalf w ++ lowHalf w : BitVec 32) = w := by
  apply BitVec.eq_of_toNat_eq
  have lt : w.toNat % 2 ^ 16 < 2 ^ 16 := Nat.mod_lt _ (by decide)
  rw [highHalf_eq, lowHalf_eq, BitVec.toNat_append, BitVec.toNat_ofNat, BitVec.toNat_ofNat, Nat.mod_mod, Nat.shiftLeft_eq,
    Nat.mul_comm, ← Nat.two_pow_add_eq_or_of_lt lt]
  have := w.isLt
  omega

/-! ## The registers -/

/-- What is shown of the last word of the payload. -/
theorem lowHalf_getLastD (payload : List Word) :
    lowHalf (payload.getLastD 0) = BitVec.ofNat 16 (payload.getLast?.elim 0 (fun w => w.toNat % 2 ^ 16)) := by
  rw [lowHalf_eq, List.getLastD_eq_getLast?]
  cases payload.getLast? <;> rfl

theorem freeChunkCount_lt (b : BufferStore) : freeChunkCount b < 2 ^ 8 :=
  Nat.lt_of_le_of_lt (List.length_filter_le _ _) (by decide)

theorem setWidth_eq_ofNat {w : Nat} (v : BitVec w) : v.setWidth 16 = BitVec.ofNat 16 v.toNat := by
  apply BitVec.eq_of_toNat_eq
  simp

theorem readRegister_events (s : State) :
    readRegister .events s = BitVec.ofNat 16 (s.events.result.toNat + 2 * (!s.attnQueue.isEmpty).toNat
      + 4 * s.events.link.toNat + 8 * s.events.unit.toNat + 16 * s.events.posted.toNat + 32 * s.events.proto.toNat
      + 64 * s.events.access.toNat) := by
  rw [← toNat_eventFlags]
  exact setWidth_eq_ofNat _

theorem readRegister_linkState (s : State) :
    readRegister .linkState s
      = BitVec.ofNat 16 (2 ^ 8 * s.link.lastLoss.code + 2 ^ 4 * s.link.epoch.toNat + s.link.state.code) := by
  have := s.link.epoch.isLt
  have := s.link.state.code_lt
  exact three_fields (by omega) (by omega) _

theorem readRegister_linkCtrl (s : State) :
    readRegister .linkCtrl s = BitVec.ofNat 16 (2 ^ 15 * s.link.autoRestart.toNat + s.link.trainingLimit.toNat) := by
  have := s.link.trainingLimit.isLt
  exact two_fields (by omega) _

theorem readRegister_stgCmd (s : State) :
    readRegister .stgCmd s = BitVec.ofNat 16 (2 ^ 15 * s.staging.posted.toNat + 2 ^ 8 * s.staging.unit.val
      + 2 ^ 4 * s.staging.space.code + s.staging.kindCode.toNat) := by
  have := s.staging.unit.isLt
  have := s.staging.space.code_lt
  have := s.staging.kindCode.isLt
  exact four_fields (by omega) (by omega) (by omega) _

theorem readRegister_stgLenLanes (s : State) :
    readRegister .stgLenLanes s = BitVec.ofNat 16 (2 ^ 8 * s.staging.laneMask.toNat + s.staging.length.toNat) := by
  have := s.staging.length.isLt
  exact two_fields (by omega) _

theorem readRegister_unitCaps (s : State) :
    readRegister .unitCaps s
      = BitVec.ofNat 16 (2 ^ 8 * (s.unit s.host.unitSel).maxBlock + (s.unit s.host.unitSel).spaces.toNat) := by
  have := (s.unit s.host.unitSel).spaces.isLt
  exact two_fields (by omega) _

theorem readRegister_levelsA (s : State) :
    readRegister .levelsA s = BitVec.ofNat 16 (2 ^ 8 * (allTags.filter (fun t => (s.tag t).state = .free)).length
      + (allChunks.filter (fun c => s.store.free.get c)).length) :=
  two_fields (freeChunkCount_lt s.store) _

theorem readRegister_resultCoalesce {s : State} (h : s.events.threshold ≤ 32) :
    readRegister .resultCoalesce s = BitVec.ofNat 16 (2 ^ 8 * s.events.holdoff.toNat + s.events.threshold) :=
  two_fields (by omega) _

theorem readRegister_levelsB {s : State} (h : s.attnQueue.length ≤ 16) :
    readRegister .levelsB s = BitVec.ofNat 16 (2 ^ 8 * s.results.length + s.attnQueue.length) :=
  two_fields (by omega) _

theorem readRegister_attnView {s : State} (h : s.host.attnView.count ≤ 255) :
    readRegister .attnView s = BitVec.ofNat 16
      (2 ^ 15 * s.host.attnView.valid.toNat + 2 ^ 8 * s.host.attnView.unit.val + s.host.attnView.count) := by
  have := s.host.attnView.unit.isLt
  exact three_fields (by omega) (by omega) _

theorem readRegister_unitInfo {s : State} (limit : (s.unit s.host.unitSel).creditLimit ≤ 15)
    (outstanding : (s.unit s.host.unitSel).outstanding ≤ 15) :
    readRegister .unitInfo s = BitVec.ofNat 16 (2 ^ 15 * (s.unit s.host.unitSel).present.toNat
      + 2 ^ 8 * (s.unit s.host.unitSel).creditLimit + (s.unit s.host.unitSel).outstanding) :=
  three_fields (by omega) (by omega) _

/-! ### The posted failure latch -/

theorem readRegister_postedFailA {s : State} {f : PostedFailure} (h : s.latch.record = some f) :
    readRegister .postedFailA s
      = BitVec.ofNat 16 (2 ^ 15 + 2 ^ 10 * f.tag.val + 2 ^ 6 * f.unit.val + f.reason.code) := by
  have := f.tag.isLt
  have := f.unit.isLt
  have := f.reason.code_lt
  change showPostedFailA s.latch = _
  rw [showPostedFailA, h]
  exact four_fields (a := 1) (by omega) (by omega) (by omega)

theorem readRegister_postedFailAddr {s : State} {f : PostedFailure} (h : s.latch.record = some f) :
    (readRegister .postedFailAddrH s ++ readRegister .postedFailAddrL s : BitVec 32) = f.address := by
  have address : postedAddress s.latch = f.address := by rw [postedAddress, h]
  rw [← address]
  exact highHalf_append_lowHalf _

theorem readRegister_posted_of_empty {s : State} (h : s.latch.record = none) :
    readRegister .postedFailA s = 0 ∧ readRegister .postedFailAddrH s = 0 ∧ readRegister .postedFailAddrL s = 0 := by
  have shown : showPostedFailA s.latch = 0 := by rw [showPostedFailA, h]
  have address : postedAddress s.latch = 0 := by rw [postedAddress, h]
  exact ⟨shown, congrArg highHalf address, congrArg lowHalf address⟩

/-! ### The result view -/

theorem readRegister_resView {s : State} {c : CompletionRecord} (h : s.host.resultView.shown = some c) :
    readRegister .resViewA s = BitVec.ofNat 16
        (2 ^ 15 * s.host.resultView.valid.toNat + 2 ^ 8 * c.tag.val + 2 ^ 4 * c.outcome.code + c.executed.code)
      ∧ readRegister .resViewB s = BitVec.ofNat 16
        (2 ^ 15 * c.cancelRequested.toNat + 2 ^ 8 * (c.reason.elim 0 RefusalReason.code) + 2 ^ 4 * c.unit.val + c.kind.code)
      ∧ readRegister .resWords s = BitVec.ofNat 16 c.wordsDelivered := by
  have := c.tag.isLt
  have := c.outcome.code_lt
  have := c.executed.code_lt
  have := c.unit.isLt
  have := c.kind.code_lt
  have reason : (c.reason.map RefusalReason.code).getD 0 = c.reason.elim 0 RefusalReason.code := by
    cases c.reason <;> rfl
  have reasonLt : c.reason.elim 0 RefusalReason.code < 8 := by
    cases c.reason with
    | none => decide
    | some r => exact r.code_lt
  change showResViewA _ = _ ∧ showResViewB _ = _ ∧ showResWords _ = _
  rw [showResViewA, showResViewB, showResWords, h]
  simp only [reason]
  exact ⟨four_fields (by omega) (by omega) (by omega) _, four_fields (by omega) (by omega) (by omega) _, field_zero _⟩

theorem readRegister_resView_of_none {s : State} (shown : s.host.resultView.shown = none)
    (valid : s.host.resultView.valid = false) :
    readRegister .resViewA s = 0 ∧ readRegister .resViewB s = 0 ∧ readRegister .resWords s = 0 := by
  change showResViewA _ = _ ∧ showResViewB _ = _ ∧ showResWords _ = _
  rw [showResViewA, showResViewB, showResWords, shown, valid]
  exact ⟨rfl, rfl, rfl⟩

/-! ### The data ports -/

theorem dataWord_eq (r : TagRecord) (n : Nat) (b : BufferStore) :
    dataWord r n b = if r.kind = .readBlock ∨ r.kind = .writeBlock then readPlace r.chunkList n b else r.slot := by
  unfold dataWord
  cases r.kind <;> rfl

theorem readRegister_rdData {s : State} {w : Option Word} (h : portWord s = w) :
    (readRegister .rdDataH s ++ readRegister .rdDataL s : BitVec 32) = w.getD 0 := by
  change (((portWord s).map highHalf).getD 0 ++ ((portWord s).map lowHalf).getD 0 : BitVec 32) = _
  rw [h]
  cases w with
  | none => decide
  | some w => exact highHalf_append_lowHalf w

theorem readRegister_rdData_of_none {s : State} (h : portWord s = none) :
    readRegister .rdDataH s = 0 ∧ readRegister .rdDataL s = 0 := by
  change ((portWord s).map highHalf).getD 0 = 0 ∧ ((portWord s).map lowHalf).getD 0 = 0
  rw [h]
  exact ⟨rfl, rfl⟩

theorem portWord_of_lt {s : State} {x : Tag} (selected : s.host.selected = some x)
    (h : s.host.readPointer < s.host.readLimit) : portWord s = some (dataWord (s.tag x) s.host.readPointer s.store) := by
  rw [portWord, selected]
  exact if_pos h

theorem portWord_of_done {s : State} (h : s.host.selected = none ∨ s.host.readLimit ≤ s.host.readPointer) :
    portWord s = none := by
  unfold portWord
  split
  · rfl
  · next x selected =>
    rw [selected] at h
    exact if_neg (by simpa using h)

/-! ### After power-on reset -/

theorem readRegister_reset (r : Reg)
    (h : r ∉ [Reg.id, .resultCoalesce, .linkCtrl, .linkTiming, .unitTimeout, .levelsA]) :
    readRegister r State.reset = 0 := by
  cases r
  case id | resultCoalesce | linkCtrl | linkTiming | unitTimeout | levelsA => exact absurd h (by decide)
  all_goals rfl

/-- Settles O53: the values after reset, and each register by the lemma on its fields. -/
theorem registersShowState : Obligations.RegistersShowState := by
  intro s f c v a u e l g word
  refine ⟨rfl, rfl, rfl, rfl, by decide, readRegister_reset, ?_, readRegister_resultCoalesce,
    fun _ => readRegister_levelsB, fun h => ⟨readRegister_postedFailA h, readRegister_postedFailAddr h⟩,
    readRegister_posted_of_empty, readRegister_resView, readRegister_resView_of_none, fun x selected h => ?_,
    fun h => readRegister_rdData_of_none (portWord_of_done h), readRegister_attnView, readRegister_unitInfo,
    rfl, rfl, rfl, rfl, rfl, rfl, rfl, rfl, rfl⟩
  · simp only [List.forall_mem_cons]
    exact ⟨rfl, rfl, field_zero _, readRegister_events s, setWidth_eq_ofNat _, readRegister_linkState s,
      readRegister_linkCtrl s, field_zero _, field_zero _, field_zero _, readRegister_stgCmd s, highHalf_eq _, lowHalf_eq _,
      readRegister_stgLenLanes s, ofNat_toNat_halfword _, lowHalf_getLastD _, field_zero _, field_zero _,
      ofNat_toNat_halfword _, field_zero _, ofNat_toNat_halfword _, ofNat_toNat_halfword _, readRegister_unitCaps s,
      flag_zero _, field_zero _, field_zero _, readRegister_levelsA s, nofun⟩
  · rw [readRegister_rdData (portWord_of_lt selected h), Option.getD_some, dataWord_eq]

end Sys2Proof.Machine
end

section
/-! SUPPORT. What the host alone sets, and that no event of the far end, of a timer or of the transmitter changes it (O7). -/

namespace Sys2Proof.Machine

/-! ## The host's own state -/

/-- The settings of the link controller (R133). -/
def Link.settings (l : Link) : Bool × Byte × Nat := (l.autoRestart, l.trainingLimit, l.replayTimeout)

/-- The settings of the event unit (R152, R153). -/
def EventUnit.settings (e : EventUnit) : BitVec 7 × Nat × Byte := (e.enables, e.threshold, e.holdoff)

/-- The host-owned fields of a unit record (R97). -/
def UnitRecord.settings (r : UnitRecord) : Halfword × Bool := (r.replyTimeout, r.masked)

/-- What the host alone sets: the staging record, the host port, and the settings of the link controller, the event unit
and every unit. -/
structure HostSide where
  staging : Staging
  host : HostPort
  link : Bool × Byte × Nat
  events : BitVec 7 × Nat × Byte
  units : UnitNo → Halfword × Bool

/-- The host's own part of a state. -/
def State.hostSide (s : State) : HostSide :=
  ⟨s.staging, s.host, s.link.settings, s.events.settings, fun u => (s.unit u).settings⟩

/-! ## The updates of the state -/

@[simp] theorem hostSide_updTag (t : Tag) (f : TagRecord → TagRecord) (s : State) :
    (updTag t f s).hostSide = s.hostSide := rfl

@[simp] theorem hostSide_sendMessage (body : List Word) (s : State) : (sendMessage body s).hostSide = s.hostSide := rfl

@[simp] theorem hostSide_protocolError (s : State) : (protocolError s).hostSide = s.hostSide := rfl

@[simp] theorem hostSide_raiseUnit (s : State) : (raiseUnit s).hostSide = s.hostSide := rfl

@[simp] theorem hostSide_changeState (target : LinkState) (s : State) : (changeState target s).hostSide = s.hostSide := rfl

@[simp] theorem hostSide_reportPosted (t : Tag) (reason : PostedReason) (s : State) :
    (reportPosted t reason s).hostSide = s.hostSide := rfl

theorem hostSide_updLink {f : Link → Link} (h : ∀ l, (f l).settings = l.settings) (s : State) :
    (updLink f s).hostSide = s.hostSide :=
  congrArg (fun l => { s.hostSide with link := l }) (h s.link)

theorem hostSide_updEvents {f : EventUnit → EventUnit} (h : ∀ e, (f e).settings = e.settings) (s : State) :
    (updEvents f s).hostSide = s.hostSide :=
  congrArg (fun e => { s.hostSide with events := e }) (h s.events)

/-- What keeps every unit's settings and all else of the host's keeps the host's side. -/
theorem hostSide_of_units {s s' : State} (units : ∀ u, (s'.unit u).settings = (s.unit u).settings)
    (rest : { s' with units := s.units }.hostSide = s.hostSide) : s'.hostSide = s.hostSide := by
  rw [← rest]
  exact congrArg (fun v => { s'.hostSide with units := v }) (funext units)

theorem hostSide_updUnit {f : UnitRecord → UnitRecord} (h : ∀ r, (f r).settings = r.settings) (u : UnitNo) (s : State) :
    (updUnit u f s).hostSide = s.hostSide :=
  hostSide_of_units (fun v => unit_updUnit_proj UnitRecord.settings u v f s (h _)) rfl

/-! ## The tag table -/

@[simp] theorem hostSide_leaveLists (t : Tag) (s : State) : (leaveLists t s).hostSide = s.hostSide :=
  hostSide_updUnit (f := fun r => { r with orderList := r.orderList.filter (fun x => x ≠ t) }) (fun _ => rfl)
    (s.tag t).unit s

@[simp] theorem hostSide_freeTag (t : Tag) (s : State) : (freeTag t s).hostSide = s.hostSide :=
  hostSide_leaveLists t (returnChunks t s)

@[simp] theorem hostSide_orphanTag (t : Tag) (s : State) : (orphanTag t s).hostSide = s.hostSide :=
  hostSide_leaveLists t (returnChunks t s)

@[simp] theorem hostSide_completeTag (t : Tag) (e : Ending) (s : State) : (completeTag t e s).hostSide = s.hostSide :=
  hostSide_leaveLists t (updTag t (completedRecord e) s)

@[simp] theorem hostSide_releaseMarks (u : UnitNo) (s : State) : (releaseMarks u s).hostSide = s.hostSide :=
  foldl_keeps State.hostSide _ (fun s t => hostSide_completeTag t markEnding s) _ s

@[simp] theorem hostSide_completeAndRelease (t : Tag) (e : Ending) (s : State) :
    (completeAndRelease t e s).hostSide = s.hostSide := by simp [completeAndRelease]

@[simp] theorem hostSide_freeAndRelease (t : Tag) (s : State) : (freeAndRelease t s).hostSide = s.hostSide := by
  simp [freeAndRelease]

@[simp] theorem hostSide_orphanAndRelease (t : Tag) (s : State) : (orphanAndRelease t s).hostSide = s.hostSide := by
  simp [orphanAndRelease]

@[simp] theorem hostSide_settleTag (outcome : TxOutcome) (reason : PostedReason) (t : Tag) (s : State) :
    (settleTag outcome reason t s).hostSide = s.hostSide := by
  cases h : (s.tag t).state <;> simp only [settleTag, h]
  case complete => rfl
  case orphaned => exact hostSide_freeTag t s
  all_goals split <;> simp

@[simp] theorem hostSide_settleAllTags (s : State) : (settleAllTags s).hostSide = s.hostSide :=
  foldl_keeps State.hostSide _ (fun s t => hostSide_settleTag .linkLost .linkLost t s) allTags s

@[simp] theorem hostSide_settleUnitTags (u : UnitNo) (s : State) : (settleUnitTags u s).hostSide = s.hostSide := by
  refine foldl_keeps State.hostSide _ (fun s t => ?_) allTags s
  split
  · exact hostSide_settleTag .unitGone .unitGone t s
  · rfl

/-! ## Replies and the timers of a tag -/

@[simp] theorem hostSide_returnCredit (u : UnitNo) (s : State) : (returnCredit u s).hostSide = s.hostSide :=
  hostSide_updUnit (f := fun r => { r with outstanding := r.outstanding - 1 }) (fun _ => rfl) u s

@[simp] theorem hostSide_placeData (t : Tag) (offset count : Nat) (words : List Word) (s : State) :
    (placeData t offset count words s).hostSide = s.hostSide := by
  unfold placeData
  split <;> rfl

@[simp] theorem hostSide_placeReply (t : Tag) (b : ReplyBody) (s : State) : (placeReply t b s).hostSide = s.hostSide := by
  cases b with
  | data final short offset count words => exact hostSide_placeData t offset count words s
  | done => rfl
  | refuse reason => rfl

@[simp] theorem hostSide_postedReport (t : Tag) (b : ReplyBody) (s : State) :
    (postedReport t b s).hostSide = s.hostSide := by
  unfold postedReport
  split
  · split <;> rfl
  all_goals rfl

theorem hostSide_acceptReply (t : Tag) (b : ReplyBody) (s : State) : (acceptReply t b s).hostSide = s.hostSide := by
  unfold acceptReply
  split
  · simp [acceptPosted]
  · split
    · simp [acceptSegment]
    · simp [acceptFinal]

theorem hostSide_violateReply (t : Tag) (b : ReplyBody) (s : State) : (violateReply t b s).hostSide = s.hostSide := by
  rw [violateReply, hostSide_protocolError]
  split
  · unfold violatePosted
    split <;> simp
  · rw [violateNonPosted, hostSide_completeAndRelease]
    split <;> simp

theorem hostSide_lateFinal (t : Tag) (s : State) : (lateFinal t s).hostSide = s.hostSide := by
  unfold lateFinal
  split <;> simp

theorem hostSide_takeReply (t : Tag) (u : UnitNo) (b : Option ReplyBody) (s : State) :
    (takeReply t u b s).hostSide = s.hostSide := by
  unfold takeReply takeMatched
  split
  · rfl
  split
  · split
    · split
      · exact hostSide_lateFinal t s
      · rfl
    · split
      · exact hostSide_acceptReply t _ s
      · exact hostSide_violateReply t _ s
  · rfl

theorem hostSide_expireReplyTimerOf (t : Tag) (s : State) : (expireReplyTimerOf t s).hostSide = s.hostSide := by
  unfold expireReplyTimerOf
  split <;> rfl

theorem hostSide_expireCancelTimerOf (t : Tag) (s : State) : (expireCancelTimerOf t s).hostSide = s.hostSide := by
  unfold expireCancelTimerOf
  split
  · split <;> simp
  · rfl

/-! ## The link -/

theorem hostSide_loseUnits (s : State) : (loseUnits s).hostSide = s.hostSide := by
  refine hostSide_of_units (fun u => by rw [unit_loseUnits]; rfl) ?_
  unfold loseUnits
  split <;> rfl

theorem hostSide_loseTags (s : State) : (loseTags s).hostSide = s.hostSide := by
  have settled := hostSide_settleAllTags s
  unfold loseTags
  generalize settleAllTags s = w at settled ⊢
  exact settled

@[simp] theorem hostSide_linkLoss (reason : LossReason) (s : State) : (linkLoss reason s).hostSide = s.hostSide := by
  rw [linkLoss, hostSide_changeState, hostSide_updLink, hostSide_loseUnits, hostSide_loseTags]
  exact fun _ => rfl

@[simp] theorem hostSide_loseEstablished (reason : LossReason) (s : State) :
    (loseEstablished reason s).hostSide = s.hostSide := by
  unfold loseEstablished
  split <;> simp

@[simp] theorem hostSide_demandPass (s : State) : (demandPass s).hostSide = s.hostSide := by
  unfold demandPass
  split
  · rfl
  · exact hostSide_loseEstablished _ s

theorem hostSide_takeAck (n : SeqNo) (s : State) : (takeAck n s).hostSide = s.hostSide := by
  unfold takeAck
  split <;> rfl

theorem hostSide_takeNak (n : SeqNo) (s : State) : (takeNak n s).hostSide = s.hostSide := by
  unfold takeNak
  split
  · simp only
    split
    · rfl
    split
    · rfl
    · exact hostSide_demandPass _
  · rfl

theorem hostSide_endTrainingInterval (s : State) : (endTrainingInterval s).hostSide = s.hostSide := by
  unfold endTrainingInterval
  split
  · rfl
  simp only
  split
  · split <;> rfl
  · rfl

theorem hostSide_expireDiscoveryTimer (s : State) : (expireDiscoveryTimer s).hostSide = s.hostSide := by
  unfold expireDiscoveryTimer
  split
  · rfl
  simp only
  split
  · exact hostSide_linkLoss _ _
  · rfl

theorem hostSide_expireReplayTimer (s : State) : (expireReplayTimer s).hostSide = s.hostSide := by
  unfold expireReplayTimer
  split
  · rfl
  · exact hostSide_demandPass _

theorem hostSide_expireAckDelay (s : State) : (expireAckDelay s).hostSide = s.hostSide := by
  unfold expireAckDelay
  split <;> rfl

theorem hostSide_expireRestartTimer (s : State) : (expireRestartTimer s).hostSide = s.hostSide := by
  unfold expireRestartTimer
  split
  · rfl
  simp only
  split <;> rfl

theorem hostSide_holdoffExpiry (s : State) : (holdoffExpiry s).hostSide = s.hostSide := by
  unfold holdoffExpiry
  split <;> rfl

/-! ## The transmitter -/

theorem hostSide_takeItem {item : TxItem} {effect : State → State} {s : State} (h : (effect s).hostSide = s.hostSide) :
    (takeItem item effect s).hostSide = s.hostSide := by
  unfold takeItem
  split
  · exact h
  · rfl

theorem hostSide_takeReplayItem (s : State) : (takeReplayItem s).hostSide = s.hostSide := by
  unfold takeReplayItem
  split <;> rfl

theorem hostSide_takeAttentionAckItem (s : State) : (takeAttentionAckItem s).hostSide = s.hostSide := by
  unfold takeAttentionAckItem
  split
  · rw [hostSide_sendMessage]
    exact hostSide_updUnit (fun _ => by rfl) _ s
  · rfl

theorem hostSide_takeCancelItem (s : State) : (takeCancelItem s).hostSide = s.hostSide := by
  unfold takeCancelItem
  split <;> rfl

theorem hostSide_takeRequestItem (s : State) : (takeRequestItem s).hostSide = s.hostSide := by
  unfold takeRequestItem
  split
  · rfl
  · next t _ =>
    rw [hostSide_sendMessage]
    exact hostSide_updUnit (f := fun v => { v with outstanding := v.outstanding + 1 }) (fun _ => rfl) (s.tag t).unit s

/-! ## Received frames -/

theorem hostSide_takeUnitReport (u : UnitNo) (spaces : BitVec 4) (classCode : Halfword) (limit maxBlock : Byte)
    (s : State) : (takeUnitReport u spaces classCode limit maxBlock s).hostSide = s.hostSide := by
  unfold takeUnitReport
  split
  · rw [hostSide_raiseUnit]
    exact hostSide_updUnit (fun _ => by rfl) _ s
  · rfl

theorem hostSide_takeReportEnd (s : State) : (takeReportEnd s).hostSide = s.hostSide := by
  unfold takeReportEnd
  split <;> rfl

theorem hostSide_takeUnitGone (u : UnitNo) (s : State) : (takeUnitGone u s).hostSide = s.hostSide := by
  unfold takeUnitGone
  split
  · have settled := hostSide_settleUnitTags u s
    generalize settleUnitTags u s = w at settled ⊢
    refine Eq.trans ?_ settled
    exact hostSide_updUnit (f := fun r => { absentUnit r with held := none }) (fun _ => rfl) u w
  · rfl

theorem hostSide_takeAttention (u : UnitNo) (number : Byte) (cause : Halfword) (s : State) :
    (takeAttention u number cause s).hostSide = s.hostSide := by
  unfold takeAttention
  split
  · split
    · exact hostSide_updUnit (fun _ => by rfl) _ s
    · rfl
  · rfl

theorem hostSide_deliver (m : Inbound) (s : State) : (deliver m s).hostSide = s.hostSide := by
  cases m with
  | replyData t u final short offset count words => exact hostSide_takeReply t u _ s
  | replyDone t u => exact hostSide_takeReply t u _ s
  | replyRefuse t u reason => exact hostSide_takeReply t u _ s
  | unitReport u spaces classCode limit maxBlock => exact hostSide_takeUnitReport u spaces classCode limit maxBlock s
  | reportEnd => exact hostSide_takeReportEnd s
  | unitGone u => exact hostSide_takeUnitGone u s
  | attention u number cause => exact hostSide_takeAttention u number cause s
  | undefined => rfl

theorem hostSide_sequenceMessage (seq : SeqNo) (m : Inbound) (s : State) :
    (sequenceMessage seq m s).hostSide = s.hostSide := by
  unfold sequenceMessage
  simp only
  split
  · exact hostSide_deliver m (updRecv ReceiveSide.delivered s)
  · split <;> rfl

/-- A frame with an epoch keeps the host's side where its two effects do. -/
theorem hostSide_receiveInEpoch {epoch : Epoch} {inTraining inSession : State → State} {s : State}
    (ht : (inTraining s).hostSide = s.hostSide) (hs : (inSession s).hostSide = s.hostSide) :
    (receiveInEpoch epoch inTraining inSession s).hostSide = s.hostSide := by
  obtain ⟨-, h⟩ | ⟨-, -, h⟩ | ⟨-, -, h⟩ | ⟨-, -, h⟩ := receiveInEpoch_cases epoch inTraining inSession s <;> rw [h]
  · rfl
  · exact ht
  · exact hs

theorem hostSide_receiveMessage (h : MsgHeader) (m : Inbound) (s : State) :
    (receiveMessage h m s).hostSide = s.hostSide := by
  unfold receiveMessage discardMessage
  split
  case h_1 | h_2 => split <;> rfl
  all_goals exact hostSide_receiveInEpoch rfl (hostSide_sequenceMessage h.seq m s)

theorem hostSide_receiveTrain (s : State) : (receiveTrain s).hostSide = s.hostSide := by
  unfold receiveTrain
  split
  case h_1 | h_2 => exact hostSide_linkLoss _ s
  case h_3 | h_4 => split <;> rfl
  case h_5 => rfl

theorem hostSide_receiveTrainAck (epoch : Epoch) (s : State) : (receiveTrainAck epoch s).hostSide = s.hostSide :=
  hostSide_receiveInEpoch rfl rfl

theorem hostSide_receiveAck (epoch : Epoch) (n : SeqNo) (s : State) : (receiveAck epoch n s).hostSide = s.hostSide :=
  hostSide_receiveInEpoch rfl (hostSide_takeAck n s)

theorem hostSide_receiveNak (epoch : Epoch) (n : SeqNo) (s : State) : (receiveNak epoch n s).hostSide = s.hostSide :=
  hostSide_receiveInEpoch rfl (hostSide_takeNak n s)

theorem hostSide_receiveRaw (f : RawFrame) (s : State) : (receiveRaw f s).hostSide = s.hostSide := by
  unfold receiveRaw receiveBroken
  split
  · split <;> rfl
  · next frame _ =>
    cases frame with
    | train e => exact hostSide_receiveTrain s
    | trainAck e => exact hostSide_receiveTrainAck e s
    | ack e n => exact hostSide_receiveAck e n s
    | nak e n => exact hostSide_receiveNak e n s
    | message h body => exact hostSide_receiveMessage h _ s

/-! ## Every command that is not the host's -/

/-- An event keeps the host's side where its effect does: its appends change flags and the holdoff timer alone (R154). -/
theorem hostSide_takeEvent {effect : State → State} {s t : State} (h : takeEvent effect s = .next t)
    (he : (effect s).hostSide = s.hostSide) : t.hostSide = s.hostSide := by
  obtain ⟨-, rfl⟩ | ⟨-, rfl⟩ := takeEvent_cases h
  · rfl
  · have appends (e : EventUnit) (before after : Nat) : (e.afterAppends before after).settings = e.settings := by
      unfold EventUnit.afterAppends
      split <;> rfl
    exact (hostSide_updEvents (f := fun e => e.afterAppends _ _) (fun e => appends e _ _) _).trans he

/-- The commands of the far end, the timers and the transmitter keep the host's side. -/
theorem exec_hostSide {c : Instr} {s t : State} (agent : fromHost c = false) (noReset : isReset c = false)
    (h : exec c s = .next t) : t.hostSide = s.hostSide := by
  cases c
  case resetN => cases noReset
  case lossOfSignal => exact hostSide_takeEvent h (hostSide_loseEstablished _ s)
  case train => exact hostSide_takeEvent h (hostSide_receiveTrain s)
  case trainAck => exact hostSide_takeEvent h (hostSide_receiveTrainAck _ s)
  case ack => exact hostSide_takeEvent h (hostSide_receiveAck _ _ s)
  case nak => exact hostSide_takeEvent h (hostSide_receiveNak _ _ s)
  case frameCheckFailure => exact hostSide_takeEvent h (hostSide_receiveRaw _ s)
  case messageOutOfSequence | replyData | replyDone | replyRefuse | unitReport | reportEnd | unitGone | attention
      | undefinedMessage =>
    exact hostSide_takeEvent h (hostSide_receiveMessage _ _ s)
  case replyTimerExpiry => exact hostSide_takeEvent h (hostSide_expireReplyTimerOf _ s)
  case cancelTimerExpiry => exact hostSide_takeEvent h (hostSide_expireCancelTimerOf _ s)
  case trainingIntervalEnd => exact hostSide_takeEvent h (hostSide_endTrainingInterval s)
  case discoveryTimerExpiry => exact hostSide_takeEvent h (hostSide_expireDiscoveryTimer s)
  case replayTimerExpiry => exact hostSide_takeEvent h (hostSide_expireReplayTimer s)
  case ackDelayTimerExpiry => exact hostSide_takeEvent h (hostSide_expireAckDelay s)
  case restartTimerExpiry => exact hostSide_takeEvent h (hostSide_expireRestartTimer s)
  case holdoffTimerExpiry => exact hostSide_takeEvent h (hostSide_holdoffExpiry s)
  case nakTake | ackTake | trainTake => exact hostSide_takeEvent h (hostSide_takeItem rfl)
  case replayTake => exact hostSide_takeEvent h (hostSide_takeItem (hostSide_takeReplayItem s))
  case attentionAckTake => exact hostSide_takeEvent h (hostSide_takeItem (hostSide_takeAttentionAckItem s))
  case cancelTake => exact hostSide_takeEvent h (hostSide_takeItem (hostSide_takeCancelItem s))
  case requestTake => exact hostSide_takeEvent h (hostSide_takeItem (hostSide_takeRequestItem s))
  case transmitEnd => exact hostSide_takeEvent h rfl
  all_goals cases agent

/-- Settles O7: the host's side is kept by every command that is neither the host's nor a reset, field by field. -/
theorem farEventsLeaveHostState : Obligations.FarEventsLeaveHostState := by
  intro s c agent noReset
  obtain ⟨t, ht⟩ := exec_answers c s
  have kept := exec_hostSide agent noReset ht
  simp only [State.hostSide, Link.settings, EventUnit.settings, HostSide.mk.injEq, Prod.mk.injEq] at kept
  obtain ⟨staging, host, ⟨autoRestart, trainingLimit, replayTimeout⟩, ⟨enables, threshold, holdoff⟩, units⟩ := kept
  exact ⟨t, ht, staging, host, autoRestart, trainingLimit, replayTimeout, enables, threshold, holdoff,
    fun u => Prod.ext_iff.mp (congrFun units u)⟩

end Sys2Proof.Machine
end

section
/-! SUPPORT. Table 2.3 and the checks of the model are one list of checks (O9). -/

namespace Sys2Proof.Machine

/-! ## Codes of kinds -/

theorem kindOfCode_eq_none_iff (code : BitVec 3) : kindOfCode code = none ↔ code.toNat = 0 ∨ code.toNat = 7 := by
  revert code
  decide

theorem Kind.code_defined (k : Kind) : ¬ (k.code = 0 ∨ k.code = 7) := by cases k <;> decide

theorem Kind.code_eq_mark (k : Kind) : k.code = 6 ↔ k = .mark := by cases k <;> decide

theorem Kind.code_isBlock (k : Kind) : k.code = 3 ∨ k.code = 4 ↔ k.isBlock = true := by cases k <;> decide

theorem Kind.code_usesLanes (k : Kind) : k.code = 2 ∨ k.code = 5 ↔ k.usesLanes = true := by cases k <;> decide

theorem Kind.code_mayBePosted (k : Kind) : k.code = 2 ∨ k.code = 4 ↔ k.mayBePosted = true := by cases k <;> decide

theorem Kind.code_payloadRequired (k : Kind) (length : Nat) :
    (if k.usesLanes = true then 1 else if k.code = 4 then length else 0) = k.payloadRequired length := by
  cases k <;> rfl

/-! ## The first check that fails -/

/-- The refusal of the first row whose check fails, DONE where none fails. -/
def firstFailing (rows : List (CmdResult × Bool)) : CmdResult :=
  ((rows.find? (fun row => row.2)).map (fun row => row.1)).getD .done

theorem firstFailing_nil : firstFailing [] = .done := rfl

theorem firstFailing_cons (r : CmdResult) (b : Bool) (rows : List (CmdResult × Bool)) :
    firstFailing ((r, b) :: rows) = if b = true then r else firstFailing rows := by
  cases b <;> rfl

theorem lowestFreeTag_eq_none_iff (s : State) : lowestFreeTag s = none ↔ ∀ t, (s.tag t).state ≠ .free := by
  simp [lowestFreeTag, mem_allTags]

/-- A kind reserves chunks that the pool lacks only where it is a block kind (R31). -/
theorem lacksChunks_iff (k : Kind) (length free : Nat) :
    free < k.chunksReserved length ↔ k.isBlock = true ∧ free < (length + 15) / 16 := by
  unfold Kind.chunksReserved chunksNeeded
  split <;> simp_all

/-- The checks of SUBMIT are those of Table 2.3 (R29, R30). -/
theorem submitCheck_eq_firstFailing (s : State) : submitCheck s = firstFailing (submitTable s) := by
  unfold submitTable
  simp only [firstFailing_cons, firstFailing_nil]
  cases kind : kindOfCode s.staging.kindCode with
  | none =>
    have undefinedCode := (kindOfCode_eq_none_iff _).mp kind
    simp only [submitCheck, kind, undefinedCode, decide_true, if_true, decide_eq_true_eq]
  | some k =>
    have code := code_of_kindOfCode kind
    simp only [submitCheck, kind, checkKind, code, k.code_defined, k.code_eq_mark, k.code_isBlock, k.code_usesLanes,
      k.code_mayBePosted, k.code_payloadRequired, lowestFreeTag_eq_none_iff, lacksChunks_iff, decide_eq_true_eq,
      Bool.and_eq_true, Bool.not_eq_true', decide_eq_false_iff_not, Bool.decide_eq_true, if_false]

/-- No row of Table 2.3 shows DONE. -/
theorem ne_done_of_firstRefusal {s : State} {r : CmdResult} (h : firstRefusal s = some r) : r ≠ .done := by
  obtain ⟨row, found, rfl⟩ := Option.map_eq_some_iff.mp h
  have rows : ∀ row ∈ submitTable s, row.1 ≠ .done := by simp [submitTable]
  exact rows row (List.mem_of_find?_eq_some found)

theorem submitCheck_of_refusal {s : State} {r : CmdResult} (h : firstRefusal s = some r) : submitCheck s = r := by
  rw [submitCheck_eq_firstFailing]
  exact congrArg (fun o => o.getD .done) h

/-- A SUBMIT that its checks refuse sets CMD_RESULT alone (R29). -/
theorem cmdSubmit_of_refused {s : State} (h : submitCheck s ≠ .done) (operand : Byte) :
    cmdSubmit operand s = withResult (submitCheck s) s := by
  unfold cmdSubmit
  split
  · next check _ _ => exact absurd check h
  · rfl

/-- Settles O9: the first check that fails is the one that SUBMIT reports. -/
theorem submitReportsFirstFailingCheck : Obligations.SubmitReportsFirstFailingCheck := by
  intro s operand r released refused
  have check := submitCheck_of_refusal refused
  have effect := cmdSubmit_of_refused (check ▸ ne_done_of_firstRefusal refused) operand
  rw [check] at effect
  exact takeEvent_next released effect (Nat.le_refl _)

end Sys2Proof.Machine
end

section
/-! SUPPORT. The writes to the staging registers, the counters and the settings: what each stores, and what the register shows
after it (O17, O19, O20). -/

namespace Sys2Proof.Machine

/-! ## Written fields read back -/

/-- The bits of a register that a field of a width covers, from bit `low` up. -/
def fieldMask (low width : Nat) : Halfword := (BitVec.allOnes width).setWidth 16 <<< low

/-- A field stored from its own bits shows those bits. -/
theorem field_extractLsb' (low width : Nat) (value : Halfword) :
    field low (value.extractLsb' low width).toNat = value &&& fieldMask low width := by
  ext i hi
  simp only [field, fieldMask, BitVec.ofNat_toNat, BitVec.getElem_and, BitVec.getElem_shiftLeft,
    BitVec.getElem_setWidth, BitVec.getLsbD_extractLsb', BitVec.getLsbD_allOnes]
  by_cases h : i < low
  · simp [h]
  · have : low + (i - low) = i := by omega
    simp [h, this, BitVec.getLsbD_eq_getElem hi, Bool.and_comm]

/-- A flag stored from its own bit shows that bit. -/
theorem flag_getLsbD (bit : Nat) (value : Halfword) : flag bit (value.getLsbD bit) = value &&& fieldMask bit 1 := by
  have one : value.extractLsb' bit 1 = BitVec.ofBool (value.getLsbD bit) := by
    ext i hi
    obtain rfl : i = 0 := by omega
    simp
  rw [← field_extractLsb', one, BitVec.toNat_ofBool, flag]

theorem code_spaceOfCode (code : BitVec 2) : (spaceOfCode code).code = code.toNat := by
  revert code
  decide

theorem highHalf_append (h l : Halfword) : highHalf (h ++ l) = h := BitVec.extractLsb'_append_eq_left

theorem lowHalf_append (h l : Halfword) : lowHalf (h ++ l) = l := BitVec.extractLsb'_append_eq_right

/-! ## Events that append nothing -/

/-- The answer of an event whose effect leaves the result queue as it was is that effect. -/
theorem answers_effect {s w : State} {effect : State → State} {post : State → Prop} (released : s.resetAsserted = false)
    (he : effect s = w) (results : w.results = s.results) (hp : post w) : Answers (takeEvent effect s) post :=
  ⟨w, takeEvent_next released he (Nat.le_of_eq (congrArg List.length results)), hp⟩

/-! ## The payload and the counters -/

/-- A write to STG_DATA_L with room in the payload appends the joined word (R25). -/
theorem writeStgDataL_of_room {s : State} (room : s.staging.payload.length < 64) (value : Halfword) :
    writeStgDataL value s = { s with staging := { s.staging with
      payload := s.staging.payload ++ [(s.host.highLatch ++ value : BitVec 32)] } } := if_pos room

/-- A write to STG_DATA_L with 64 words held sets ACCESS alone (R25). -/
theorem writeStgDataL_of_full {s : State} (full : 64 ≤ s.staging.payload.length) (value : Halfword) :
    writeStgDataL value s = { s with events := { s.events with access := true } } := if_neg (Nat.not_lt.mpr full)

/-- STG_DATA_L and STG_COUNT after a word was appended (R25, R26). -/
theorem readRegister_of_append {s : State} {payload : List Word} {h l : Halfword}
    (held : s.staging.payload = payload ++ [(h ++ l : BitVec 32)]) :
    readRegister .stgDataL s = l ∧ readRegister .stgCount s = BitVec.ofNat 16 (payload.length + 1) := by
  change lowHalf (s.staging.payload.getLastD 0) = l ∧ field 0 s.staging.payload.length = _
  rw [held, List.getLastD_concat, lowHalf_append, field_zero, List.length_append, List.length_singleton]
  exact ⟨rfl, rfl⟩

/-- Settles O19: the latch, the append while there is room, and ACCESS at 64 words. -/
theorem stagingPortsBuildPayload : Obligations.StagingPortsBuildPayload := by
  intro s value released
  refine ⟨answers_effect released rfl rfl ⟨rfl, rfl⟩, fun room => ?_, fun full => ?_⟩
  · exact answers_effect released (writeStgDataL_of_room room value) rfl ⟨rfl, readRegister_of_append rfl⟩
  · exact takeEvent_next released (writeStgDataL_of_full full value) (Nat.le_refl _)

/-- Settles O17: each clear's whole effect, and what the cleared registers show. -/
theorem clearsEmptyWhatTheyName : Obligations.ClearsEmptyWhatTheyName := by
  intro s operand value released
  obtain ⟨failA, addrH, addrL⟩ := readRegister_posted_of_empty (s := cmdClearPosted operand s) rfl
  exact ⟨answers_effect released rfl rfl ⟨rfl, rfl⟩,
    answers_effect released rfl rfl ⟨rfl, failA, addrH, addrL, rfl⟩,
    takeEvent_next released rfl (Nat.le_refl _), takeEvent_next released rfl (Nat.le_refl _),
    takeEvent_next released rfl (Nat.le_refl _)⟩

/-! ## Registers that are read and written -/

/-- STG_CMD: the posted flag in bit 15, the unit in bits 11 to 8, the space in bits 5 and 4, the kind in bits 2 to 0. -/
theorem readRegister_writeStgCmd (value : Halfword) (s : State) :
    readRegister .stgCmd (writeStgCmd value s) = value &&& 0x8F37#16 := by
  change flag 15 (value.getLsbD 15) ||| field 8 (value.extractLsb' 8 4).toNat
    ||| field 4 (spaceOfCode (value.extractLsb' 4 2)).code ||| field 0 (value.extractLsb' 0 3).toNat = _
  simp only [code_spaceOfCode, flag_getLsbD, field_extractLsb', ← BitVec.and_or_distrib_left]
  rfl

/-- STG_LEN_LANES: the lane mask in bits 11 to 8, the length in bits 6 to 0. -/
theorem readRegister_writeStgLenLanes (value : Halfword) (s : State) :
    readRegister .stgLenLanes (writeStgLenLanes value s) = value &&& 0x0F7F#16 := by
  change field 8 (value.extractLsb' 8 4).toNat ||| field 0 (value.extractLsb' 0 7).toNat = _
  simp only [field_extractLsb', ← BitVec.and_or_distrib_left]
  rfl

theorem readRegister_writeUnitSel (value : Halfword) (s : State) :
    readRegister .unitSel (writeUnitSel value s) = value &&& 0x000F#16 :=
  field_extractLsb' 0 4 value

/-- LINK_CTRL: auto-restart in bit 15, the training limit in bits 7 to 0. -/
theorem readRegister_writeLinkCtrl (value : Halfword) (s : State) :
    readRegister .linkCtrl (writeLinkCtrl value s) = value &&& 0x80FF#16 := by
  change flag 15 (value.getLsbD 15) ||| field 0 (value.extractLsb' 0 8).toNat = _
  simp only [flag_getLsbD, field_extractLsb', ← BitVec.and_or_distrib_left]
  rfl

theorem readRegister_writeUnitTimeout (value : Halfword) (s : State) :
    readRegister .unitTimeout (writeUnitTimeout value s) = value := by
  change ((updUnit s.host.unitSel _ s).unit s.host.unitSel).replyTimeout = value
  rw [unit_updUnit_self]

/-- The replay timeout is the low byte, bounded to 2 to 128 (R133). -/
theorem writeLinkTiming_eq (value : Halfword) (s : State) :
    writeLinkTiming value s = { s with link := { s.link with
      replayTimeout :=
        if value.toNat % 256 < 2 then 2 else if 128 < value.toNat % 256 then 128 else value.toNat % 256 } } := by
  have written : (value.extractLsb' 0 8).toNat = value.toNat % 256 := by simp
  rw [writeLinkTiming, written]
  rfl

/-- Settles O20: each register by what its write stores and what it shows after it. -/
theorem registerWritesStoreFields : Obligations.RegisterWritesStoreFields := by
  intro s value released
  exact ⟨answers_effect released rfl rfl ⟨rfl, readRegister_writeStgCmd value s⟩,
    answers_effect released rfl rfl ⟨rfl, highHalf_append _ _, lowHalf_append _ _⟩,
    answers_effect released rfl rfl ⟨rfl, lowHalf_append _ _, highHalf_append _ _⟩,
    answers_effect released rfl rfl ⟨rfl, readRegister_writeStgLenLanes value s⟩,
    answers_effect released rfl rfl ⟨rfl, readRegister_writeUnitSel value s⟩,
    answers_effect released rfl rfl ⟨rfl, readRegister_writeUnitTimeout value s⟩,
    answers_effect released (writeLinkTiming_eq value s) rfl ⟨rfl, field_zero _⟩,
    answers_effect released rfl rfl ⟨rfl, readRegister_writeLinkCtrl value s⟩⟩

end Sys2Proof.Machine
end

section
/-! SUPPORT. The chunks and the credits through every event of the tag table (O56). -/

namespace Sys2Proof.Machine

/-! ## What a tag holds -/

/-- A change of a tag's record that leaves the chunks it holds and the number it is due. -/
structure SameHolding (r r' : TagRecord) : Prop where
  list : r'.chunkList = r.chunkList
  held : r'.chunksHeld = r.chunksHeld

theorem SameHolding.refl (r : TagRecord) : SameHolding r r := ⟨rfl, rfl⟩

/-- A tag in this state holds the chunks of its block (R37, R39). -/
def TagState.holds : TagState → Bool
  | .free | .orphaned => false
  | .queued | .waiting | .sent | .receiving | .cancelling | .posted | .complete => true

theorem chunksHeld_eq (r : TagRecord) :
    r.chunksHeld = if r.state.holds = true ∧ r.kind.isBlock = true then chunksNeeded r.length else 0 := by
  unfold TagRecord.chunksHeld chunksNeeded
  cases r.state <;> simp [TagState.holds]

theorem holds_of_live {p : TagState} (live : p.inOrderList = true) : p.holds = true := by
  revert live
  cases p <;> decide

theorem sameHolding_of_holds {r r' : TagRecord} (before : r.state.holds = true) (after : r'.state.holds = true)
    (same : (r'.chunkList, r'.kind, r'.length) = (r.chunkList, r.kind, r.length)) : SameHolding r r' := by
  simp only [Prod.mk.injEq] at same
  obtain ⟨list, kind, length⟩ := same
  exact ⟨list, by rw [chunksHeld_eq, chunksHeld_eq, before, after, kind, length]⟩

/-- The completion of a tag that holds its chunks leaves them to it (R7, R39). -/
theorem sameHolding_completed {r : TagRecord} (holds : r.state.holds = true) (e : Ending) :
    SameHolding r (completedRecord e r) := sameHolding_of_holds holds rfl rfl

/-! ## The pool -/

theorem ChunksAccounted.of_sameHolding {s s' : State} (h : ChunksAccounted s)
    (tags : ∀ x, SameHolding (s.tag x) (s'.tag x)) (free : s'.store.free = s.store.free) : ChunksAccounted s' := by
  obtain ⟨ascending, disjoint, pool, held⟩ := h
  simp only [ChunksAccounted, (tags _).list, (tags _).held, free]
  exact ⟨ascending, disjoint, pool, held⟩

/-- One tag's record changes, and what it holds stays. -/
theorem ChunksAccounted.of_one {s s' : State} {t : Tag} (h : ChunksAccounted s)
    (others : ∀ x, x ≠ t → s'.tag x = s.tag x) (own : SameHolding (s.tag t) (s'.tag t))
    (free : s'.store.free = s.store.free) : ChunksAccounted s' := by
  refine h.of_sameHolding (fun x => ?_) free
  by_cases hx : x = t
  · rw [hx]
    exact own
  · rw [others x hx]
    exact .refl _

/-- One tag's chunks return to the pool all together (R39). -/
theorem ChunksAccounted.returned {s s' : State} {t : Tag} (h : ChunksAccounted s)
    (others : ∀ x, x ≠ t → s'.tag x = s.tag x) (list : (s'.tag t).chunkList = []) (none : (s'.tag t).chunksHeld = 0)
    (store : s'.store = putChunks (s.tag t).chunkList s.store) : ChunksAccounted s' := by
  obtain ⟨ascending, disjoint, pool, held⟩ := h
  have lists (x : Tag) : (s'.tag x).chunkList = if x = t then [] else (s.tag x).chunkList := by
    split
    · next hx => rw [hx, list]
    · next hx => rw [others x hx]
  refine ⟨fun x => ?_, fun x y c hx hy => ?_, fun c => ?_, fun x => ?_⟩
  · rw [lists]
    split
    · exact List.Pairwise.nil
    · exact ascending x
  · rw [lists] at hx hy
    split at hx
    · cases hx
    split at hy
    · cases hy
    · exact disjoint x y c hx hy
  · have flag : s'.store.free.get c = true ↔ c ∈ (s.tag t).chunkList ∨ s.store.free.get c = true := by
      rw [store, putChunks, get_markChunks]
      split <;> simp_all
    rw [flag, pool]
    constructor
    · intro hc x hx
      rw [lists] at hx
      split at hx
      · cases hx
      · next hxt => exact hc.elim (fun hct => hxt (disjoint x t c hx hct)) fun hall => hall x hx
    · intro hall
      by_cases hct : c ∈ (s.tag t).chunkList
      · exact .inl hct
      · refine .inr fun x => ?_
        by_cases hxt : x = t
        · rwa [hxt]
        · have := hall x
          rwa [lists, if_neg hxt] at this
  · rw [lists]
    split
    · next hx => rw [hx, none, List.length_nil]
    · next hx => rw [others x hx, held]

/-- A tag meets a fate; one that completes has held its chunks before. -/
theorem ChunksAccounted.after_act {s : State} (h : ChunksAccounted s) (f : Fate) {t : Tag}
    (holds : (s.tag t).state.holds = true ∨ f = .free ∨ f = .orphan) : ChunksAccounted (f.act t s) := by
  have others (x : Tag) (hx : x ≠ t) : (f.act t s).tag x = s.tag x := by rw [f.tag_act, if_neg hx]
  have own : (f.act t s).tag t = f.record (s.tag t) := by rw [f.tag_act, if_pos rfl]
  have store := f.store_act t s
  cases f with
  | complete e =>
    refine h.of_one others ?_ (by rw [store]; rfl)
    rw [own]
    exact sameHolding_completed (holds.resolve_right (by simp)) e
  | free => exact h.returned others (by rw [own]; rfl) (by rw [own]; rfl) store
  | orphan => exact h.returned others (by rw [own]; rfl) (by rw [own]; rfl) store

/-- The MARKs that are released keep what they hold. -/
theorem ChunksAccounted.after_releaseMarks {s : State} (h : ChunksAccounted s) (u : UnitNo) :
    ChunksAccounted (releaseMarks u s) := by
  refine h.of_sameHolding (fun x => ?_) (by rw [releaseMarks_eq])
  rw [tag_releaseMarks]
  split
  · next hx => exact sameHolding_completed (by rw [(mem_frontMarks hx).2]; rfl) _
  · exact .refl _

theorem ChunksAccounted.after_settleTag {s : State} (h : ChunksAccounted s) (outcome : TxOutcome) (reason : PostedReason)
    (t : Tag) : ChunksAccounted (settleTag outcome reason t s) := by
  obtain ⟨-, e⟩ | ⟨-, e⟩ | ⟨-, e⟩ | ⟨-, -, e⟩ | ⟨live, -, e⟩ := settleTag_cases outcome reason t s <;> rw [e]
  · exact h
  · exact h.of_one (fun x hx => tag_updTag_of_ne hx _ s) (by rw [tag_updTag_self]; exact ⟨rfl, rfl⟩) rfl
  · exact h.after_act _ (.inr (.inl rfl))
  · exact ChunksAccounted.after_act (s := reportPosted t reason s) h _ (.inr (.inl rfl))
  · exact h.after_act _ (.inl (holds_of_live live))

theorem ChunksAccounted.after_settleAllTags {s : State} (h : ChunksAccounted s) : ChunksAccounted (settleAllTags s) :=
  foldl_preserves ChunksAccounted _ (fun _ t hs => hs.after_settleTag _ _ t) _ s h

theorem ChunksAccounted.after_settleUnitTags {s : State} (h : ChunksAccounted s) (u : UnitNo) :
    ChunksAccounted (settleUnitTags u s) :=
  foldl_preserves ChunksAccounted _ (fun s t hs => by
    split
    · exact hs.after_settleTag _ _ t
    · exact hs) _ s h

/-! ## SUBMIT -/

/-- What a SUBMIT that passes every check has found of the length and the pool (Table 2.3, R31). -/
structure Supplied (k : Kind) (s : State) : Prop where
  length : k.isBlock = true → 1 ≤ s.staging.length.toNat ∧ s.staging.length.toNat ≤ 64
  chunks : k.chunksReserved s.staging.length.toNat ≤ freeChunkCount s.store

theorem supplied_of_submitCheck {s : State} {k : Kind} (h : submitCheck s = .done)
    (hk : kindOfCode s.staging.kindCode = some k) : Supplied k s := by
  rw [submitCheck, hk] at h
  obtain ⟨-, h⟩ := passed_of_ite_eq_done h (by decide)
  obtain ⟨-, h⟩ := passed_of_ite_eq_done h (by decide)
  obtain ⟨-, h⟩ := passed_of_ite_eq_done h (by decide)
  obtain ⟨-, h⟩ := passed_of_ite_eq_done h (by decide)
  obtain ⟨-, h⟩ := passed_of_ite_eq_done h (by decide)
  obtain ⟨length, h⟩ := passed_of_ite_eq_done h (by decide)
  obtain ⟨-, h⟩ := passed_of_ite_eq_done h (by decide)
  obtain ⟨-, h⟩ := passed_of_ite_eq_done h (by decide)
  obtain ⟨-, h⟩ := passed_of_ite_eq_done h (by decide)
  obtain ⟨-, h⟩ := passed_of_ite_eq_done h (by decide)
  obtain ⟨buffer, -⟩ := passed_of_ite_eq_done h (by decide)
  refine ⟨fun block => ?_, Nat.not_lt.mp buffer⟩
  simp only [block, true_and, not_or] at length
  omega

/-- The chunks that a new tag reserves: its record lists them and the pool loses them (R31, R38). -/
theorem ChunksAccounted.reserved {s s' : State} {t : Tag} {n : Nat} (h : ChunksAccounted s)
    (absent : (s.tag t).state = .free) (others : ∀ x, x ≠ t → s'.tag x = s.tag x)
    (list : (s'.tag t).chunkList = (freeChunks s.store).take n) (due : (s'.tag t).chunksHeld = n)
    (enough : n ≤ freeChunkCount s.store) (free : s'.store.free = (takeChunks ((freeChunks s.store).take n) s.store).free) :
    ChunksAccounted s' := by
  have fresh {x : Tag} {c : ChunkNo} (hc : c ∈ (s.tag x).chunkList) : c ∉ (freeChunks s.store).take n :=
    h.not_reserved n hc
  obtain ⟨ascending, disjoint, pool, held⟩ := h
  have nothing : (s.tag t).chunkList = [] := List.eq_nil_of_length_eq_zero (by rw [held, chunksHeld_eq, absent]; rfl)
  have lists (x : Tag) : (s'.tag x).chunkList = if x = t then (freeChunks s.store).take n else (s.tag x).chunkList := by
    split
    · next hx => rw [hx, list]
    · next hx => rw [others x hx]
  refine ⟨fun x => ?_, fun x y c hx hy => ?_, fun c => ?_, fun x => ?_⟩
  · rw [lists]
    split
    · exact ((List.pairwise_lt_finRange 64).filter _).sublist (List.take_sublist _ _)
    · exact ascending x
  · rw [lists] at hx hy
    split at hx <;> split at hy
    · next hxt hyt => rw [hxt, hyt]
    · exact absurd hx (fresh hy)
    · exact absurd hy (fresh hx)
    · exact disjoint x y c hx hy
  · have flag : s'.store.free.get c = true ↔ s.store.free.get c = true ∧ c ∉ (freeChunks s.store).take n := by
      rw [free, takeChunks, get_markChunks]
      split <;> simp_all
    rw [flag, pool]
    constructor
    · rintro ⟨hall, hc⟩ x
      rw [lists]
      split
      · exact hc
      · exact hall x
    · intro hall
      refine ⟨fun x => ?_, by simpa [lists] using hall t⟩
      by_cases hx : x = t
      · rw [hx, nothing]
        exact List.not_mem_nil
      · have := hall x
        rwa [lists, if_neg hx] at this
  · rw [lists]
    split
    · next hx =>
      rw [hx, due, List.length_take]
      exact Nat.min_eq_left enough
    · next hx => rw [others x hx, held]

theorem chunksHeld_stagedRecord (k : Kind) (chunks : List ChunkNo) (g : Staging) :
    (stagedRecord k chunks g).chunksHeld = k.chunksReserved g.length.toNat := by
  rw [chunksHeld_eq]
  cases k <;> rfl

theorem free_reserveStore (k : Kind) (chunks : List ChunkNo) (payload : List Word) (b : BufferStore) :
    (reserveStore k chunks payload b).free = (takeChunks chunks b).free := by
  unfold reserveStore
  split
  · exact free_writePlaces _ _ _ _
  · rfl

theorem ChunksAccounted.submitted {s : State} {k : Kind} {t : Tag} (h : ChunksAccounted s)
    (absent : (s.tag t).state = .free) (supplied : Supplied k s) : ChunksAccounted (placeTag t k (fillTag t k s)) := by
  have own : (fillTag t k s).tag t
      = stagedRecord k ((freeChunks s.store).take (k.chunksReserved s.staging.length.toNat)) s.staging := by
    rw [tag_fillTag, if_pos rfl]
  have filled : ChunksAccounted (fillTag t k s) :=
    h.reserved absent (fun x hx => by rw [tag_fillTag, if_neg hx]) (by rw [own]; rfl)
      (by rw [own, chunksHeld_stagedRecord]) supplied.chunks (free_reserveStore _ _ _ _)
  have queued : ((fillTag t k s).tag t).state.holds = true := by rw [own]; rfl
  refine filled.of_one (t := t) (fun x hx => tag_placeTag t x k _ hx) ?_ (by rw [store_placeTag])
  obtain ⟨-, e⟩ | ⟨-, -, e⟩ | ⟨-, -, e⟩ := placeTag_cases t k (fillTag t k s) <;> rw [e]
  · exact .refl _
  · rw [tag_completeTag, if_pos rfl]
    exact sameHolding_completed queued _
  · rw [updUnit_tag, tag_updTag_self]
    exact sameHolding_of_holds queued rfl rfl

/-! ## Every event -/

theorem Touches.sameHolding {t : Tag} {s s' : State} (h : Touches t s s') : SameHolding (s.tag t) (s'.tag t) := by
  rw [h.own]
  exact ⟨rfl, rfl⟩

theorem ChunksAccounted.touched {t : Tag} {s s' : State} (h : ChunksAccounted s) (touch : Touches t s s') :
    ChunksAccounted s' := h.of_one touch.others touch.sameHolding touch.free

theorem ChunksAccounted.event {c : Instr} {s s' : State} (he : TagEvent c s s') (h : ChunksAccounted s) :
    ChunksAccounted s' := by
  cases he with
  | still => exact h
  | submitted check kind lowest =>
    exact h.submitted (free_of_lowestFreeTag lowest) (supplied_of_submitCheck check kind)
  | @popped r rest queue command =>
    exact h.of_one (t := r.tag) (fun x hx => tag_updTag_of_ne hx _ { s with results := rest })
      (by rw [tag_updTag_self]; exact ⟨rfl, rfl⟩) rfl
  | @released t complete popped => exact h.after_act _ (.inl (by rw [complete]; rfl))
  | touched live touch => exact h.touched touch
  | @segment s' t state posted touch =>
    refine (h.touched touch).of_one (t := t) (fun x hx => tag_updTag_of_ne hx _ _) ?_ rfl
    have live : (s'.tag t).state.holds = true := by
      rw [touch.state]
      exact holds_of_live (inOrderList_of_inFlight state)
    rw [tag_updTag_self]
    refine sameHolding_of_holds live ?_ rfl
    simp only [segmentRecord]
    split
    · rfl
    · exact live
  | @cancelling t cause state =>
    refine h.of_one (t := t) (fun x hx => by rw [tag_enterCancelling, if_neg hx]) ?_ rfl
    rw [tag_enterCancelling, if_pos rfl]
    exact sameHolding_of_holds (by obtain e | e | e := state <;> rw [e] <;> rfl) rfl rfl
  | @departed s' t f live touch fits =>
    have credited : ChunksAccounted (creditFor f t s') :=
      (h.touched touch).of_same (fun x => tag_creditFor f t x s') (by rw [creditFor_eq])
    refine (credited.after_act f (t := t) (.inl ?_)).after_releaseMarks _
    rw [tag_creditFor, touch.state]
    exact holds_of_live live
  | @freed t orphaned =>
    exact ChunksAccounted.after_act (s := returnCredit (s.tag t).unit s) h _ (.inr (.inl rfl))
  | @paid t complete owed =>
    exact h.of_one (t := t) (fun x hx => tag_updTag_of_ne hx _ (returnCredit (s.tag t).unit s))
      (by
        rw [tag_updTag_self]
        exact ⟨rfl, rfl⟩) rfl
  | @requested t choice =>
    refine h.of_one (t := t) (fun x hx => by rw [tag_sendRequest, if_neg hx]) ?_ rfl
    rw [tag_sendRequest, if_pos rfl]
    refine sameHolding_of_holds (by rw [(eligible_of_dispatchChoice choice).queued]; rfl) ?_ rfl
    simp only
    split <;> rfl
  | @cancelSent t rest head =>
    refine h.of_one (t := t) (fun x hx => by rw [tag_sendCancel, if_neg hx]) ?_ rfl
    rw [tag_sendCancel, if_pos rfl]
    exact ⟨rfl, rfl⟩
  | reported session accepted => exact h
  | @unitGone u present =>
    have settled := h.after_settleUnitTags u
    generalize settleUnitTags u s = w at settled ⊢
    exact settled
  | linkLost reason =>
    refine h.after_settleAllTags.of_same (fun x => ?_) (store_linkLoss reason s)
    rw [tag_linkLoss, tag_settleAllTags]
  | reset command after =>
    refine chunksAccounted_reset.of_same (fun x => ?_) after.store
    rw [after.tag, tag_reset]

theorem keptByStep_chunksAccounted : KeptByStep ChunksAccounted :=
  keptByStep_of (fun ha h => h.of_same ha.tag ha.store) ChunksAccounted.event

end Sys2Proof.Machine
end

section
/-! SUPPORT. The credits through every event of the tag table (O56). -/

namespace Sys2Proof.Machine

/-! ## The replies owed to a unit's tags -/

/-- A tag that is owed a final reply by this unit (R67). -/
def TagRecord.owes (u : UnitNo) (r : TagRecord) : Bool := r.owed && decide (r.unit = u)

theorem owes_of_not_owed {r : TagRecord} (h : r.owed = false) (u : UnitNo) : r.owes u = false := by
  rw [TagRecord.owes, h, Bool.false_and]

theorem owes_of_owed {r : TagRecord} (h : r.owed = true) (u : UnitNo) : r.owes u = decide (r.unit = u) := by
  rw [TagRecord.owes, h, Bool.true_and]

/-- A change of a tag's record that leaves what it is owed, and by which unit. -/
def SameDebt (r r' : TagRecord) : Prop := ∀ u, r'.owes u = r.owes u

theorem SameDebt.refl (r : TagRecord) : SameDebt r r := fun _ => rfl

theorem sameDebt_of_not_owed {r r' : TagRecord} (before : r.owed = false) (after : r'.owed = false) : SameDebt r r' :=
  fun u => by rw [owes_of_not_owed before, owes_of_not_owed after]

theorem sameDebt_of_owed {r r' : TagRecord} (before : r.owed = true) (after : r'.owed = true) (unit : r'.unit = r.unit) :
    SameDebt r r' := fun u => by rw [owes_of_owed before, owes_of_owed after, unit]

theorem sameDebt_of_one {s s' : State} {t : Tag} (others : ∀ x, x ≠ t → s'.tag x = s.tag x)
    (own : SameDebt (s.tag t) (s'.tag t)) (x : Tag) : SameDebt (s.tag x) (s'.tag x) := by
  by_cases hx : x = t
  · rw [hx]
    exact own
  · rw [others x hx]
    exact .refl _

theorem owed_of_inFlight {r : TagRecord} (h : r.state.inFlight = true) : r.owed = true := by
  revert h
  unfold TagRecord.owed
  cases r.state <;> simp [TagState.inFlight]

theorem owedCount_eq (s : State) (u : UnitNo) :
    owedCount s u = (allTags.filter (fun t => (s.tag t).owes u)).length := rfl

theorem owedCount_of_sameDebt {s s' : State} (h : ∀ x, SameDebt (s.tag x) (s'.tag x)) (u : UnitNo) :
    owedCount s' u = owedCount s u := by
  rw [owedCount_eq, owedCount_eq]
  exact congrArg List.length (List.filter_congr fun x _ => h x u)

/-- One tag comes to be owed a reply. -/
theorem owedCount_of_charged {s s' : State} {t : Tag} (others : ∀ x, x ≠ t → SameDebt (s.tag x) (s'.tag x))
    (before : (s.tag t).owed = false) (after : (s'.tag t).owed = true) (u : UnitNo) :
    owedCount s' u = owedCount s u + if u = (s'.tag t).unit then 1 else 0 := by
  split
  · next hu =>
    have own : (s'.tag t).owes u = true := by rw [owes_of_owed after, decide_eq_true hu.symm]
    have perm : (allTags.filter (fun x => (s'.tag x).owes u)).Perm (t :: allTags.filter (fun x => (s.tag x).owes u)) := by
      refine (List.perm_ext_iff_of_nodup (nodup_allTags.filter _)
        (List.nodup_cons.mpr ⟨by simp [owes_of_not_owed before], nodup_allTags.filter _⟩)).mpr fun x => ?_
      by_cases hx : x = t
      · simp [hx, own]
      · simp [hx, others x hx u]
    rw [owedCount_eq, owedCount_eq, perm.length_eq, List.length_cons]
  · next hu =>
    rw [owedCount_eq, owedCount_eq, Nat.add_zero]
    refine congrArg List.length (List.filter_congr fun x _ => ?_)
    by_cases hx : x = t
    · rw [hx, owes_of_owed after, owes_of_not_owed before, decide_eq_false fun e => hu e.symm]
    · exact others x hx u

theorem owedCount_of_settled {s : State} {u : UnitNo} (h : ∀ x, (s.tag x).owes u = false) : owedCount s u = 0 := by
  rw [owedCount_eq, List.length_eq_zero_iff, List.filter_eq_nil_iff]
  exact fun x _ => by rw [h x]; exact Bool.false_ne_true

/-! ## A unit's account -/

/-- What the credits ask of a unit's record. -/
def UnitRecord.account (r : UnitRecord) : Nat × Nat × Bool := (r.outstanding, r.creditLimit, r.present)

/-- A unit's account agrees with a count of replies owed. -/
def UnitRecord.Balanced (count : Nat) (r : UnitRecord) : Prop :=
  r.outstanding = count ∧ r.outstanding ≤ r.creditLimit ∧ (r.present = false → r.creditLimit = 0)

theorem creditsExact_iff (s : State) : CreditsExact s ↔ ∀ u, (s.unit u).Balanced (owedCount s u) := .rfl

theorem UnitRecord.Balanced.of_account {n : Nat} {r r' : UnitRecord} (h : r.Balanced n) (e : r'.account = r.account) :
    r'.Balanced n := by
  simp only [UnitRecord.account, Prod.mk.injEq] at e
  obtain ⟨outstanding, limit, present⟩ := e
  rw [UnitRecord.Balanced, outstanding, limit, present]
  exact h

theorem CreditsExact.of_same {s s' : State} (h : CreditsExact s) (tags : ∀ x, SameDebt (s.tag x) (s'.tag x))
    (units : ∀ v, (s'.unit v).account = (s.unit v).account) : CreditsExact s' := fun v => by
  rw [owedCount_of_sameDebt tags]
  exact UnitRecord.Balanced.of_account (h v) (units v)

/-- A tag's debt ends, and its credit returns (R67). -/
theorem CreditsExact.credited {s s' : State} {t : Tag} (h : CreditsExact s)
    (others : ∀ x, x ≠ t → SameDebt (s.tag x) (s'.tag x)) (before : (s.tag t).owed = true)
    (after : (s'.tag t).owed = false)
    (units : ∀ v, (s'.unit v).account = ((returnCredit (s.tag t).unit s).unit v).account) : CreditsExact s' := fun v => by
  have count := owedCount_of_charged (s := s') (s' := s) (fun x hx u => (others x hx u).symm) after before v
  obtain ⟨outstanding, limit, absent⟩ := h v
  refine UnitRecord.Balanced.of_account ?_ (units v)
  rw [returnCredit, unit_updUnit]
  split
  · next hv =>
    rw [if_pos hv] at count
    subst hv
    refine ⟨?_, ?_, absent⟩
    · change (s.unit _).outstanding - 1 = _
      omega
    · change (s.unit _).outstanding - 1 ≤ (s.unit _).creditLimit
      omega
  · next hv =>
    rw [if_neg hv] at count
    exact ⟨outstanding.trans count, limit, absent⟩

/-! ## The accounts through a departure -/

theorem account_leaveLists (t : Tag) (s : State) (v : UnitNo) : ((leaveLists t s).unit v).account = (s.unit v).account := by
  rw [unit_leaveLists]
  split <;> rfl

theorem account_act (f : Fate) (t : Tag) (s : State) (v : UnitNo) :
    ((f.act t s).unit v).account = (s.unit v).account := by
  rw [f.unit_act, account_leaveLists]

theorem account_depart (f : Fate) (t : Tag) (s : State) (v : UnitNo) :
    ((f.depart t s).unit v).account = (s.unit v).account := by
  rw [Fate.depart, unit_releaseMarks]
  exact account_act f t s v

/-- A departure leaves the debts of every tag but the departing one: a MARK is owed no reply (R54). -/
theorem sameDebt_depart {f : Fate} {t x : Tag} (s : State) (hx : x ≠ t) :
    SameDebt (s.tag x) ((f.depart t s).tag x) := by
  obtain ⟨e, -⟩ | ⟨-, waiting, e⟩ | ⟨-, e⟩ := state_depart f t x s
  · exact absurd e hx
  · rw [e]
    exact sameDebt_of_not_owed (by rw [TagRecord.owed, waiting]) rfl
  · rw [e]
    exact .refl _

theorem record_depart (f : Fate) (t : Tag) (s : State) : (f.depart t s).tag t = f.record (s.tag t) := by
  obtain ⟨-, e⟩ | ⟨h, -⟩ | ⟨h, -⟩ := state_depart f t t s
  · exact e
  · exact absurd rfl h
  · exact absurd rfl h

/-- A fate that leaves a debt leaves the unit that owes it. -/
theorem Fate.unit_record {f : Fate} {r : TagRecord} (owed : (f.record r).owed = true) : (f.record r).unit = r.unit := by
  cases f with
  | complete e => rfl
  | free => cases owed
  | orphan => rfl

/-- No fate of a live tag makes a new debt. -/
theorem Fate.Fits.owed {f : Fate} {r : TagRecord} (fits : f.Fits r) (after : (f.record r).owed = true) : r.owed = true := by
  cases f with
  | complete e => exact owed_of_inFlight (fits.2.1 after)
  | free => cases after
  | orphan => exact owed_of_inFlight fits.2

/-- A live tag departs, and its credit returns where its debt ends. -/
theorem CreditsExact.departed {s : State} {t : Tag} {f : Fate} (h : CreditsExact s) (fits : f.Fits (s.tag t)) :
    CreditsExact (f.depart t (creditFor f t s)) := by
  have unchanged (same : SameDebt (s.tag t) (f.record (s.tag t))) : CreditsExact (f.depart t s) :=
    h.of_same (fun x => by
      by_cases hx : x = t
      · rw [hx, record_depart]
        exact same
      · exact sameDebt_depart s hx) (account_depart f t s)
  unfold creditFor
  cases before : (s.tag t).owed <;> cases after : (f.record (s.tag t)).owed
  case false.false => exact unchanged (sameDebt_of_not_owed before after)
  case false.true => exact nomatch before.symm.trans (fits.owed after)
  case true.true => exact unchanged (sameDebt_of_owed before after (Fate.unit_record after))
  case true.false =>
    exact h.credited (t := t) (fun x hx => sameDebt_depart (returnCredit (s.tag t).unit s) hx) before
      (by rw [record_depart]; exact after) (account_depart f t _)

/-! ## Every event -/

theorem settledRecord_not_owed (outcome : TxOutcome) (r : TagRecord) : (settledRecord outcome r).owed = false := by
  obtain h | ⟨h, far⟩ := settledRecord_quiet outcome r
  · rw [TagRecord.owed, h]
  · rw [TagRecord.owed, h]
    exact far

theorem Touches.sameDebt {t : Tag} {s s' : State} (h : Touches t s s') (x : Tag) : SameDebt (s.tag x) (s'.tag x) :=
  sameDebt_of_one h.others (by rw [h.own]; exact fun _ => rfl) x

theorem CreditsExact.touched {t : Tag} {s s' : State} (h : CreditsExact s) (touch : Touches t s s') : CreditsExact s' :=
  h.of_same touch.sameDebt fun v => by rw [touch.unit]

/-- A REQUEST is sent: one credit of its unit is in use (R52). -/
theorem CreditsExact.requested {s : State} {t : Tag} (h : CreditsExact s) (eligible : Eligible t s) :
    CreditsExact (sendRequest t s) := fun v => by
  have own : ((sendRequest t s).tag t).owed = true ∧ ((sendRequest t s).tag t).unit = (s.tag t).unit := by
    rw [tag_sendRequest, if_pos rfl]
    refine ⟨?_, rfl⟩
    simp only [TagRecord.owed]
    cases (s.tag t).posted <;> rfl
  have count := owedCount_of_charged (s := s) (s' := sendRequest t s)
    (fun x hx => by rw [tag_sendRequest, if_neg hx]; exact .refl _) (by rw [TagRecord.owed, eligible.queued]) own.1 v
  obtain ⟨outstanding, limit, absent⟩ := h v
  rw [own.2] at count
  rw [count, unit_sendRequest]
  split
  · next hv =>
    have credit := eligible.credit
    rw [← hv] at credit
    exact ⟨congrArg (· + 1) outstanding, credit, absent⟩
  · exact ⟨outstanding, limit, absent⟩

theorem CreditsExact.submitted {s : State} {k : Kind} {t : Tag} (h : CreditsExact s)
    (absent : (s.tag t).state = .free) : CreditsExact (placeTag t k (fillTag t k s)) := by
  have queued : ((fillTag t k s).tag t).state = .queued := (fresh_fillTag t k s).state
  refine h.of_same (sameDebt_of_one (t := t) (fun x hx => ?_) ?_) fun v => ?_
  · rw [tag_placeTag t x k _ hx, tag_fillTag, if_neg hx]
  · refine sameDebt_of_not_owed (by rw [TagRecord.owed, absent]) ?_
    obtain ⟨-, e⟩ | ⟨-, -, e⟩ | ⟨-, -, e⟩ := placeTag_cases t k (fillTag t k s) <;> rw [e]
    · change ((fillTag t k s).tag t).owed = false
      rw [TagRecord.owed, queued]
    · rw [tag_completeTag, if_pos rfl]
      rfl
    · rw [updUnit_tag, tag_updTag_self]
      rfl
  · rw [← unit_fillTag t v k s]
    obtain ⟨-, e⟩ | ⟨-, -, e⟩ | ⟨-, -, e⟩ := placeTag_cases t k (fillTag t k s) <;> rw [e]
    · exact unit_updUnit_proj UnitRecord.account _ v (fun r => { r with orderList := r.orderList ++ [t] }) _ rfl
    · exact account_act (.complete markEnding) t _ v
    · exact unit_updUnit_proj UnitRecord.account _ v (fun r => { r with orderList := r.orderList ++ [t] }) _ rfl

/-- A unit with no account and no debt. -/
theorem balanced_zero {r : UnitRecord} (h : r.account = (0, 0, false)) : r.Balanced 0 :=
  UnitRecord.Balanced.of_account (r := {}) ⟨rfl, Nat.le_refl _, fun _ => rfl⟩ h

theorem CreditsExact.event {c : Instr} {s s' : State} (he : TagEvent c s s') (h : CreditsExact s) : CreditsExact s' := by
  cases he with
  | still => exact h
  | submitted check kind lowest => exact h.submitted (free_of_lowestFreeTag lowest)
  | @popped r rest queue command =>
    exact h.of_same (sameDebt_of_one (t := r.tag) (fun x hx => tag_updTag_of_ne hx _ { s with results := rest })
      (by rw [tag_updTag_self]; exact fun _ => rfl)) fun _ => rfl
  | @released t complete popped =>
    have far : (s.tag t).owed = (s.tag t).farReplyPending := by rw [TagRecord.owed, complete]
    refine h.of_same (sameDebt_of_one (t := t) (fun x hx => by rw [Fate.tag_act, if_neg hx]) ?_) (account_act _ t s)
    rw [Fate.tag_act, if_pos rfl]
    split
    · next owing => exact sameDebt_of_owed (far.trans owing) rfl rfl
    · next owing => exact sameDebt_of_not_owed (far.trans (by simpa using owing)) rfl
  | touched live touch => exact h.touched touch
  | @segment s' t state posted touch =>
    have flight : (s'.tag t).state.inFlight = true := by rwa [touch.state]
    refine (h.touched touch).of_same (sameDebt_of_one (t := t) (fun x hx => tag_updTag_of_ne hx _ _) ?_) fun _ => rfl
    rw [tag_updTag_self]
    refine sameDebt_of_owed (owed_of_inFlight flight) (owed_of_inFlight ?_) rfl
    simp only [segmentRecord]
    split
    · rfl
    · exact flight
  | @cancelling t cause state =>
    refine h.of_same (sameDebt_of_one (t := t) (fun x hx => by rw [tag_enterCancelling, if_neg hx]) ?_) fun _ => rfl
    rw [tag_enterCancelling, if_pos rfl]
    exact sameDebt_of_owed (by obtain e | e | e := state <;> rw [TagRecord.owed, e]) rfl rfl
  | departed live touch fits => exact (h.touched touch).departed fits
  | @freed t orphaned =>
    refine h.credited (t := t) (fun x hx => ?_) (by rw [TagRecord.owed, orphaned]) ?_ (account_act _ t _)
    · rw [Fate.tag_act, if_neg hx]
      exact .refl _
    · rw [Fate.tag_act, if_pos rfl]
      rfl
  | @paid t complete owed =>
    refine h.credited (t := t) (fun x hx => ?_) (by rw [TagRecord.owed, complete]; exact owed) ?_ fun _ => rfl
    · rw [tag_updTag_of_ne hx]
      exact .refl _
    · rw [tag_updTag_self]
      change TagRecord.owed { s.tag t with farReplyPending := false } = false
      rw [TagRecord.owed, complete]
  | requested choice => exact h.requested (eligible_of_dispatchChoice choice)
  | @cancelSent t rest head =>
    refine h.of_same (sameDebt_of_one (t := t) (fun x hx => by rw [tag_sendCancel, if_neg hx]) ?_) fun _ => rfl
    rw [tag_sendCancel, if_pos rfl]
    exact fun _ => rfl
  | @reported u spaces classCode limit maxBlock session accepted =>
    intro v
    simp only [reportAccepted, Bool.and_eq_true, Bool.not_eq_true'] at accepted
    obtain ⟨⟨absent, -⟩, -⟩ := accepted
    obtain ⟨outstanding, limited, zero⟩ := h v
    change UnitRecord.Balanced (owedCount s v) _
    rw [unit_updUnit]
    split
    · next hv =>
      subst hv
      have := zero absent
      exact ⟨show 0 = owedCount s v by omega, Nat.zero_le _, nofun⟩
    · exact ⟨outstanding, limited, zero⟩
  | @unitGone u present =>
    have tags (x : Tag) := tag_settleUnitTags u x s
    have others (v : UnitNo) (hv : v ≠ u) := unit_settleUnitTags_of_ne hv s
    generalize settleUnitTags u s = w at tags others ⊢
    intro v
    change UnitRecord.Balanced (owedCount w v) _
    rw [unit_updUnit_gone]
    split
    · next hv =>
      rw [owedCount_of_settled fun x => ?_]
      · exact balanced_zero rfl
      · rw [tags, hv]
        split
        · exact owes_of_not_owed (settledRecord_not_owed _ _) _
        · next hx => rw [TagRecord.owes, decide_eq_false hx, Bool.and_false]
    · next hv =>
      have count : owedCount w v = owedCount s v := by
        rw [owedCount_eq, owedCount_eq]
        refine congrArg List.length (List.filter_congr fun x _ => ?_)
        rw [tags]
        split
        · next hx =>
          rw [owes_of_not_owed (settledRecord_not_owed _ _), TagRecord.owes, hx, decide_eq_false (Ne.symm hv),
            Bool.and_false]
        · rfl
      rw [count, others v hv]
      exact h v
  | linkLost reason =>
    intro v
    rw [owedCount_of_settled fun x => by rw [tag_linkLoss]; exact owes_of_not_owed (settledRecord_not_owed _ _) v,
      unit_linkLoss]
    exact balanced_zero rfl
  | reset command after =>
    intro v
    rw [owedCount_of_settled fun x => by rw [after.tag]; rfl, after.units]
    exact balanced_zero rfl

theorem UnitAside.account {r r' : UnitRecord} (h : UnitAside r r') : r'.account = r.account := by rw [h.1]; rfl

/-- Settles O56: every event of the tag table keeps the chunks and the credits accounted for, and asides change neither. -/
theorem keptChunksAndCredits : Obligations.KeptChunksAndCredits :=
  ⟨keptByStep_chunksAccounted,
    keptByStep_of (fun ha h => h.of_same (fun x => by rw [ha.tag]; exact .refl _) fun v => (ha.units v).account)
      CreditsExact.event⟩

end Sys2Proof.Machine
end

section
/-! SUPPORT. What every operation of the machine keeps beside the tag table: the selection, the attention records, the counts
and RESULT (O59). -/

namespace Sys2Proof.Machine

/-! ## The conditions, block by block -/

/-- The selection is sound, case by case. -/
theorem selectionSound_iff (s : State) :
    SelectionSound s ↔ (s.host.selected = none → s.host.readPointer = 0 ∧ s.host.readLimit = 0)
      ∧ ∀ t, s.host.selected = some t → (s.tag t).state = .complete
        ∧ s.host.readLimit = (s.tag t).wordsDelivered ∧ s.host.readPointer ≤ s.host.readLimit := by
  unfold SelectionSound
  cases s.host.selected <;> simp

/-- What the host port holds of the selection (R44). -/
def HostPort.selection (h : HostPort) : Option Tag × Nat × Nat := (h.selected, h.readPointer, h.readLimit)

/-- The selected tag, if it is COMPLETE, stays so with the same words delivered (R45). -/
def SelectedKept (s s' : State) : Prop :=
  ∀ x, s.host.selected = some x → (s.tag x).state = .complete →
    (s'.tag x).state = .complete ∧ (s'.tag x).wordsDelivered = (s.tag x).wordsDelivered

theorem SelectionSound.of_kept {s s' : State} (h : SelectionSound s) (complete : SelectedKept s s')
    (host : s'.host.selection = s.host.selection) : SelectionSound s' := by
  simp only [HostPort.selection, Prod.mk.injEq] at host
  obtain ⟨selected, pointer, limit⟩ := host
  rw [selectionSound_iff] at h ⊢
  rw [selected, pointer, limit]
  refine ⟨h.1, fun t ht => ?_⟩
  obtain ⟨state, delivered, below⟩ := h.2 t ht
  obtain ⟨state', delivered'⟩ := complete t ht state
  exact ⟨state', delivered.trans delivered'.symm, below⟩

/-- The attention records after their counts and units stayed as they were. -/
theorem AttentionsSound.of_counts {s s' : State} (h : AttentionsSound s)
    (units : s'.attnQueue.map AttnRecord.unit = s.attnQueue.map AttnRecord.unit)
    (queue : ∀ r ∈ s'.attnQueue, ∃ q ∈ s.attnQueue, q.attn.count = r.attn.count)
    (held : ∀ v a, (s'.unit v).held = some a → ∃ b, (s.unit v).held = some b ∧ b.count = a.count) :
    AttentionsSound s' := by
  obtain ⟨nodup, counts, heldCounts⟩ := h
  refine ⟨units ▸ nodup, fun r hr => ?_, fun v a ha => ?_⟩
  · obtain ⟨q, hq, e⟩ := queue r hr
    exact e ▸ counts q hq
  · obtain ⟨b, hb, e⟩ := held v a ha
    exact e ▸ heldCounts v b hb

theorem AttentionsSound.of_same {s s' : State} (h : AttentionsSound s) (queue : s'.attnQueue = s.attnQueue)
    (held : ∀ v, (s'.unit v).held = (s.unit v).held) : AttentionsSound s' :=
  h.of_counts (by rw [queue]) (fun r hr => ⟨r, queue ▸ hr, rfl⟩) fun v a ha => ⟨a, held v ▸ ha, rfl⟩

/-- The link controller's counts and its replay timeout lie in their ranges. -/
def Link.InRange (l : Link) : Prop :=
  l.rxErrors ≤ 65535 ∧ l.replayCount ≤ 65535 ∧ l.attempts ≤ 255 ∧ l.recv.ackCount ≤ Config.ackCountLimit
    ∧ 2 ≤ l.replayTimeout ∧ l.replayTimeout ≤ 128

/-- PROTO_ERRORS and the threshold lie in their ranges. -/
def EventUnit.InRange (e : EventUnit) : Prop := e.protoErrors ≤ 255 ∧ 1 ≤ e.threshold ∧ e.threshold ≤ 32

/-- The overflow count lies in its range, and an empty latch has none. -/
def PostedLatch.InRange (l : PostedLatch) : Prop := l.overflow ≤ 255 ∧ (l.record = none → l.overflow = 0)

theorem countsInRange_iff (s : State) :
    CountsInRange s ↔ s.events.InRange ∧ s.link.InRange ∧ s.latch.InRange
      ∧ s.staging.payload.length ≤ Config.payloadLimit := by
  simp only [CountsInRange, EventUnit.InRange, Link.InRange, PostedLatch.InRange, and_assoc]

/-- RESULT and the holdoff timer. -/
def EventUnit.coalescing (e : EventUnit) : Bool × Timer := (e.result, e.holdoffTimer)

theorem ResultFlagSound.of_kept {s s' : State} (h : ResultFlagSound s) (results : s'.results = [] → s.results = [])
    (flags : s'.events.coalescing = s.events.coalescing) : ResultFlagSound s' := fun empty => by
  simp only [EventUnit.coalescing, Prod.mk.injEq] at flags
  rw [flags.1, flags.2]
  exact h (results empty)

/-- What a change of the state keeps, each condition by itself. -/
structure Keeps (s s' : State) : Prop where
  selection : SelectionSound s → SelectionSound s'
  attentions : AttentionsSound s → AttentionsSound s'
  counts : CountsInRange s → CountsInRange s'
  flag : ResultFlagSound s → ResultFlagSound s'

theorem Keeps.refl (s : State) : Keeps s s := ⟨id, id, id, id⟩

theorem Keeps.trans {s s' s'' : State} (h : Keeps s s') (h' : Keeps s' s'') : Keeps s s'' :=
  ⟨h'.selection ∘ h.selection, h'.attentions ∘ h.attentions, h'.counts ∘ h.counts, h'.flag ∘ h.flag⟩

/-- What the conditions ask of the blocks other than the tag table, the result queue and the unit directory. -/
def State.besides (s : State) :
    List AttnRecord × PostedLatch × Nat × (Option Tag × Nat × Nat) × (Nat × Nat × Nat × Nat × Nat) × (Nat × Nat)
      × Bool × Timer :=
  (s.attnQueue, s.latch, s.staging.payload.length, s.host.selection,
    (s.link.rxErrors, s.link.replayCount, s.link.attempts, s.link.recv.ackCount, s.link.replayTimeout),
    (s.events.protoErrors, s.events.threshold), s.events.coalescing)

/-- A change of the tag table that keeps the selected tag and, if it empties no result queue, nothing else. -/
theorem keeps_of_tags {s s' : State} (complete : SelectedKept s s') (results : s'.results = [] → s.results = [])
    (held : ∀ v, (s'.unit v).held = (s.unit v).held) (besides : s'.besides = s.besides) : Keeps s s' := by
  simp only [State.besides, Prod.mk.injEq] at besides
  obtain ⟨queue, latch, payload, host, ⟨rx, replays, attempts, acks, timeout⟩, ⟨proto, threshold⟩, flags⟩ := besides
  refine ⟨fun h => h.of_kept complete host, fun h => h.of_same queue held, fun h => ?_, fun h => h.of_kept results flags⟩
  simp only [CountsInRange, latch, payload, rx, replays, attempts, acks, timeout, proto, threshold]
  exact h

theorem keeps_of_same {s s' : State} (tables : (s'.tags, s'.results, s'.units) = (s.tags, s.results, s.units))
    (besides : s'.besides = s.besides) : Keeps s s' := by
  simp only [Prod.mk.injEq] at tables
  obtain ⟨tags, results, units⟩ := tables
  refine keeps_of_tags (fun x _ hx => ?_) (fun h => results ▸ h) (fun v => ?_) besides
  · rw [State.tag, tags]
    exact ⟨hx, rfl⟩
  · rw [State.unit, units]
    rfl

/-! ## The updates of the state -/

theorem keeps_updTag {t : Tag} {f : TagRecord → TagRecord} {s : State}
    (h : (s.tag t).state = .complete →
      (f (s.tag t)).state = .complete ∧ (f (s.tag t)).wordsDelivered = (s.tag t).wordsDelivered) :
    Keeps s (updTag t f s) := by
  refine keeps_of_tags (fun x _ hx => ?_) id (fun _ => rfl) rfl
  rw [tag_updTag]
  split
  · next e =>
    subst e
    exact h hx
  · exact ⟨hx, rfl⟩

theorem keeps_updUnit {u : UnitNo} {f : UnitRecord → UnitRecord} {s : State}
    (h : (f (s.unit u)).held = (s.unit u).held) : Keeps s (updUnit u f s) :=
  keeps_of_tags (fun _ _ hx => ⟨hx, rfl⟩) id (fun v => unit_updUnit_proj UnitRecord.held u v f s h) rfl

theorem keeps_updLink {f : Link → Link} {s : State} (h : s.link.InRange → (f s.link).InRange) :
    Keeps s (updLink f s) where
  selection := id
  attentions := id
  counts hc := by
    rw [countsInRange_iff] at hc ⊢
    obtain ⟨events, link, rest⟩ := hc
    exact ⟨events, h link, rest⟩
  flag := id

theorem keeps_updEvents {f : EventUnit → EventUnit} {s : State} (h : s.events.InRange → (f s.events).InRange)
    (flags : (f s.events).coalescing = s.events.coalescing) : Keeps s (updEvents f s) where
  selection := id
  attentions := id
  counts hc := by
    rw [countsInRange_iff] at hc ⊢
    obtain ⟨events, rest⟩ := hc
    exact ⟨h events, rest⟩
  flag hf := hf.of_kept (s' := updEvents f s) id flags

theorem keeps_attnQueue {s : State} {q : List AttnRecord} (h : AttentionsSound s → AttentionsSound { s with attnQueue := q }) :
    Keeps s { s with attnQueue := q } := ⟨id, h, id, id⟩

theorem keeps_updHost {f : HostPort → HostPort} {s : State} (h : (f s.host).selection = s.host.selection) :
    Keeps s (updHost f s) := ⟨fun hs => hs.of_kept (s' := updHost f s) (fun _ _ hx => ⟨hx, rfl⟩) h, id, id, id⟩

theorem keeps_setResult (r : CmdResult) (s : State) : Keeps s (setResult r s) := keeps_updHost rfl

theorem keeps_sendMessage (body : List Word) (s : State) : Keeps s (sendMessage body s) := keeps_of_same rfl rfl

theorem keeps_changeState (target : LinkState) (s : State) : Keeps s (changeState target s) := keeps_of_same rfl rfl

theorem riseTo_le {limit n : Nat} (h : n ≤ limit) : riseTo limit n ≤ limit := by
  unfold riseTo
  split <;> omega

theorem keeps_protocolError (s : State) : Keeps s (protocolError s) :=
  keeps_updEvents (fun ⟨proto, threshold⟩ => ⟨riseTo_le proto, threshold⟩) rfl

/-! ## The tag table -/

theorem held_leaveLists (t : Tag) (s : State) (v : UnitNo) : ((leaveLists t s).unit v).held = (s.unit v).held := by
  rw [unit_leaveLists]
  split <;> rfl

/-- A fate of a tag that is not the selected one, or not COMPLETE. -/
theorem keeps_act (f : Fate) {t : Tag} {s : State} (h : (s.tag t).state ≠ .complete ∨ s.host.selected ≠ some t) :
    Keeps s (f.act t s) := by
  refine keeps_of_tags (fun x selected hx => ?_) (fun empty => ?_) (fun v => by rw [f.unit_act, held_leaveLists])
    (by rw [f.act_eq]; rfl)
  · rw [f.tag_act, if_neg fun (e : x = t) => h.elim (fun h => h (e ▸ hx)) fun h => h (e ▸ selected)]
    exact ⟨hx, rfl⟩
  · rw [f.results_act] at empty
    exact (List.append_eq_nil_iff.mp empty).1

theorem keeps_releaseMarks (u : UnitNo) (s : State) : Keeps s (releaseMarks u s) := by
  refine keeps_of_tags (fun x _ hx => ?_) (fun empty => ?_) (fun v => by rw [unit_releaseMarks])
    (by rw [releaseMarks_eq]; rfl)
  · rw [tag_releaseMarks, if_neg fun hm => nomatch hx.symm.trans (mem_frontMarks hm).2]
    exact ⟨hx, rfl⟩
  · rw [results_releaseMarks] at empty
    exact (List.append_eq_nil_iff.mp empty).1

theorem keeps_depart (f : Fate) {t : Tag} {s : State} (h : (s.tag t).state ≠ .complete) : Keeps s (f.depart t s) :=
  (keeps_act f (.inl h)).trans (keeps_releaseMarks _ _)

theorem keeps_reportPosted (t : Tag) (reason : PostedReason) (s : State) : Keeps s (reportPosted t reason s) where
  selection := id
  attentions := id
  counts h := by
    rw [countsInRange_iff] at h ⊢
    obtain ⟨events, link, ⟨overflow, empty⟩, payload⟩ := h
    refine ⟨events, link, ?_, payload⟩
    rw [reportPosted_eq]
    change (s.latch.report _).InRange
    unfold PostedLatch.report
    split
    · exact ⟨overflow, nofun⟩
    · next r full => exact ⟨riseTo_le overflow, fun e => nomatch full.symm.trans e⟩
  flag := id

theorem keeps_settleTag (outcome : TxOutcome) (reason : PostedReason) (t : Tag) (s : State) :
    Keeps s (settleTag outcome reason t s) := by
  obtain ⟨-, e⟩ | ⟨-, e⟩ | ⟨orphaned, e⟩ | ⟨live, -, e⟩ | ⟨live, -, e⟩ := settleTag_cases outcome reason t s <;> rw [e]
  · exact .refl s
  · exact keeps_updTag fun complete => ⟨complete, rfl⟩
  · exact keeps_act _ (.inl (by simp [orphaned]))
  · exact (keeps_reportPosted t reason s).trans (keeps_act _ (.inl (not_complete_of_live live)))
  · exact keeps_act _ (.inl (not_complete_of_live live))

theorem keeps_settleAllTags (s : State) : Keeps s (settleAllTags s) :=
  foldl_preserves (Keeps s) _ (fun w t h => h.trans (keeps_settleTag _ _ t w)) _ s (.refl s)

theorem keeps_settleUnitTags (u : UnitNo) (s : State) : Keeps s (settleUnitTags u s) :=
  foldl_preserves (Keeps s) _ (fun w t h => by
    split
    · exact h.trans (keeps_settleTag _ _ t w)
    · exact h) _ s (.refl s)

theorem keeps_enterCancelling (cause : CancelCause) {t : Tag} {s : State} (h : (s.tag t).state ≠ .complete) :
    Keeps s (enterCancelling cause t s) :=
  .trans (keeps_updTag fun complete => absurd complete h)
    (keeps_of_same (s := updTag t (fun r => { r with
      state := .cancelling, cancelCause := cause, cancelPending := true, timer := .idle
      cancelRequested := r.cancelRequested || decide (cause = .host) }) s) rfl rfl)

/-! ## Replies and the timers of a tag -/

theorem keeps_returnCredit (u : UnitNo) (s : State) : Keeps s (returnCredit u s) := keeps_updUnit rfl

theorem keeps_placeData (t : Tag) (offset count : Nat) (words : List Word) (s : State) :
    Keeps s (placeData t offset count words s) := by
  unfold placeData
  split
  · refine Keeps.trans ?_ (keeps_updTag fun complete => ⟨complete, rfl⟩)
    exact keeps_of_same rfl rfl
  · exact keeps_updTag fun complete => ⟨complete, rfl⟩

theorem state_placeData (t : Tag) (offset count : Nat) (words : List Word) (s : State) :
    ((placeData t offset count words s).tag t).state = (s.tag t).state := by
  unfold placeData
  split
  · rw [tag_updTag_self]
    rfl
  · rw [tag_updTag_self]

theorem keeps_placeReply (t : Tag) (b : ReplyBody) (s : State) : Keeps s (placeReply t b s) := by
  cases b with
  | data final short offset count words => exact keeps_placeData t offset count words s
  | done => exact .refl s
  | refuse reason => exact .refl s

theorem state_placeReply (t : Tag) (b : ReplyBody) (s : State) :
    ((placeReply t b s).tag t).state = (s.tag t).state := by
  cases b with
  | data final short offset count words => exact state_placeData t offset count words s
  | done => rfl
  | refuse reason => rfl

theorem keeps_acceptSegment {t : Tag} (offset count : Nat) (words : List Word) {s : State}
    (h : (s.tag t).state ≠ .complete) : Keeps s (acceptSegment t offset count words s) := by
  refine (keeps_placeData t offset count words s).trans (keeps_updTag fun complete => absurd ?_ h)
  rwa [state_placeData] at complete

theorem keeps_acceptFinal {t : Tag} (b : ReplyBody) {s : State} (h : (s.tag t).state ≠ .complete) :
    Keeps s (acceptFinal t b s) := by
  refine ((keeps_placeReply t b s).trans (keeps_returnCredit (s.tag t).unit _)).trans (keeps_depart (.complete _) ?_)
  change ((placeReply t b s).tag t).state ≠ .complete
  rwa [state_placeReply]

theorem keeps_postedReport (t : Tag) (b : ReplyBody) (s : State) : Keeps s (postedReport t b s) := by
  unfold postedReport
  split
  · split <;> exact keeps_reportPosted t _ s
  all_goals exact .refl s

theorem tag_postedReport (t x : Tag) (b : ReplyBody) (s : State) : (postedReport t b s).tag x = s.tag x := by
  unfold postedReport
  split
  · split <;> rfl
  all_goals rfl

theorem keeps_acceptReply {t : Tag} (b : ReplyBody) {s : State} (h : (s.tag t).state ≠ .complete) :
    Keeps s (acceptReply t b s) := by
  unfold acceptReply
  split
  · refine ((keeps_postedReport t b s).trans (keeps_returnCredit (s.tag t).unit _)).trans (keeps_depart .free ?_)
    change ((postedReport t b s).tag t).state ≠ .complete
    rwa [tag_postedReport]
  · split
    · exact keeps_acceptSegment _ _ _ h
    · exact keeps_acceptFinal _ h

theorem keeps_violateReply {t : Tag} (b : ReplyBody) {s : State} (h : (s.tag t).state ≠ .complete) :
    Keeps s (violateReply t b s) := by
  refine Keeps.trans ?_ (keeps_protocolError _)
  have reported := keeps_reportPosted t .protocol s
  split
  · unfold violatePosted
    split
    · exact (reported.trans (keeps_returnCredit _ _)).trans (keeps_depart .free h)
    · exact reported.trans (keeps_depart .orphan h)
  · unfold violateNonPosted
    split
    · exact (keeps_returnCredit _ s).trans (keeps_depart (.complete _) h)
    · exact keeps_depart (.complete _) h

theorem keeps_lateFinal (t : Tag) (s : State) : Keeps s (lateFinal t s) := by
  unfold lateFinal
  split
  · next orphaned =>
    refine (keeps_returnCredit (s.tag t).unit s).trans (keeps_act .free (.inl ?_))
    change (s.tag t).state ≠ .complete
    simp [orphaned]
  · exact (keeps_returnCredit _ s).trans (keeps_updTag fun complete => ⟨complete, rfl⟩)

theorem keeps_takeReply (t : Tag) (u : UnitNo) (b : Option ReplyBody) (s : State) : Keeps s (takeReply t u b s) := by
  unfold takeReply takeMatched
  split
  · exact keeps_protocolError s
  split
  · split
    · split
      · exact keeps_lateFinal t s
      · exact .refl s
    · next open_ =>
      have h : (s.tag t).state ≠ .complete := fun e => open_ (.inr e)
      split
      · exact keeps_acceptReply _ h
      · exact keeps_violateReply _ h
  · exact keeps_protocolError s

theorem keeps_expireReplyTimerOf (t : Tag) (s : State) : Keeps s (expireReplyTimerOf t s) := by
  unfold expireReplyTimerOf
  split
  case h_4 => exact .refl s
  all_goals
    next state => exact keeps_enterCancelling _ (by simp [state])

theorem keeps_expireCancelTimerOf (t : Tag) (s : State) : Keeps s (expireCancelTimerOf t s) := by
  unfold expireCancelTimerOf
  split
  · next state =>
    have h : (s.tag t).state ≠ .complete := by simp [state]
    split
    · exact (keeps_reportPosted t .lost s).trans (keeps_depart .orphan h)
    · exact keeps_depart (.complete _) h
  · exact .refl s

/-! ## The link -/

/-- Link loss keeps every attention record, its ack due apart (R110). -/
theorem keeps_loseUnits (s : State) : Keeps s (loseUnits s) where
  selection h := by
    rw [loseUnits_eq]
    exact h
  attentions h := by
    have queue : (loseUnits s).attnQueue = s.attnQueue.map (fun r => { r with attn := { r.attn with ackDue := false } }) := by
      rw [loseUnits_eq]
    refine h.of_counts ?_ (fun r hr => ?_) fun v a ha => ?_
    · rw [queue, List.map_map]
      rfl
    · rw [queue, List.mem_map] at hr
      obtain ⟨q, hq, rfl⟩ := hr
      exact ⟨q, hq, rfl⟩
    · rw [unit_loseUnits, Option.map_eq_some_iff] at ha
      obtain ⟨b, hb, rfl⟩ := ha
      exact ⟨b, hb, rfl⟩
  counts h := by
    rw [loseUnits_eq]
    exact h
  flag h := by
    rw [loseUnits_eq]
    exact h

theorem keeps_loseTags (s : State) : Keeps s (loseTags s) := by
  have settled := keeps_settleAllTags s
  unfold loseTags
  generalize settleAllTags s = w at settled ⊢
  exact settled.trans (keeps_of_same rfl rfl)

theorem keeps_linkLoss (reason : LossReason) (s : State) : Keeps s (linkLoss reason s) := by
  have lost := (keeps_loseTags s).trans (keeps_loseUnits _)
  unfold linkLoss
  generalize loseUnits (loseTags s) = w at lost ⊢
  refine (lost.trans (keeps_updLink ?_)).trans (keeps_changeState _ _)
  exact fun ⟨rx, replays, attempts, _, timeout⟩ => ⟨rx, replays, attempts, Nat.zero_le _, timeout⟩

theorem keeps_loseEstablished (reason : LossReason) (s : State) : Keeps s (loseEstablished reason s) := by
  unfold loseEstablished
  split
  case h_1 | h_2 => exact keeps_linkLoss reason s
  all_goals exact .refl s

theorem keeps_enterTraining (s : State) : Keeps s (enterTraining s) :=
  (keeps_updLink fun ⟨rx, replays, _, _, timeout⟩ => ⟨rx, replays, Nat.zero_le _, Nat.zero_le _, timeout⟩).trans
    (keeps_changeState _ _)

theorem keeps_demandPass (s : State) : Keeps s (demandPass s) := by
  unfold demandPass
  split
  · refine Keeps.trans ?_ (keeps_updLink fun ⟨rx, replays, rest⟩ => ⟨rx, riseTo_le replays, rest⟩)
    exact keeps_of_same rfl rfl
  · exact keeps_loseEstablished _ s

theorem keeps_takeAck (n : SeqNo) (s : State) : Keeps s (takeAck n s) := by
  unfold takeAck
  split
  · exact keeps_of_same rfl rfl
  · exact keeps_protocolError s

theorem keeps_takeNak (n : SeqNo) (s : State) : Keeps s (takeNak n s) := by
  unfold takeNak
  split
  · refine Keeps.trans (s' := updSend (SendSide.acknowledge (replaySetting s) n) s) (keeps_of_same rfl rfl) ?_
    simp only
    split
    · exact .refl _
    split
    · exact keeps_of_same rfl rfl
    · exact keeps_demandPass _
  · exact keeps_protocolError s

theorem keeps_endTrainingInterval (s : State) : Keeps s (endTrainingInterval s) := by
  unfold endTrainingInterval
  split
  · exact .refl s
  simp only
  split
  · split
    · exact keeps_of_same rfl rfl
    · refine Keeps.trans ?_ (keeps_changeState _ _)
      exact keeps_of_same rfl rfl
  · exact keeps_of_same rfl rfl

theorem keeps_expireDiscoveryTimer (s : State) : Keeps s (expireDiscoveryTimer s) := by
  unfold expireDiscoveryTimer
  split
  · exact .refl s
  refine Keeps.trans (s' := updLink (fun l => { l with discoveryTimer := none }) s) (keeps_of_same rfl rfl) ?_
  simp only
  split
  · exact keeps_linkLoss _ _
  · exact .refl _

theorem keeps_expireReplayTimer (s : State) : Keeps s (expireReplayTimer s) := by
  unfold expireReplayTimer
  split
  · exact .refl s
  · refine Keeps.trans ?_ (keeps_demandPass _)
    exact keeps_of_same rfl rfl

theorem keeps_expireAckDelay (s : State) : Keeps s (expireAckDelay s) := by
  unfold expireAckDelay
  split
  · exact .refl s
  · exact keeps_of_same rfl rfl

theorem keeps_expireRestartTimer (s : State) : Keeps s (expireRestartTimer s) := by
  unfold expireRestartTimer
  split
  · exact .refl s
  refine Keeps.trans (s' := updLink (fun l => { l with restartTimer := none }) s) (keeps_of_same rfl rfl) ?_
  simp only
  split
  · exact keeps_enterTraining _
  · exact .refl _

/-- At the holdoff timer's expiry an empty queue leaves RESULT as it is (R154). -/
theorem keeps_holdoffExpiry (s : State) : Keeps s (holdoffExpiry s) := by
  unfold holdoffExpiry
  split
  · exact .refl s
  · refine ⟨id, id, id, fun h empty => ?_⟩
    have empty : s.results = [] := empty
    obtain ⟨clear, -⟩ := h empty
    refine ⟨?_, rfl⟩
    change (s.events.result || !s.results.isEmpty) = false
    rw [clear, empty]
    rfl

/-! ## The transmitter -/

theorem keeps_takeItem {item : TxItem} {effect : State → State} {s : State} (h : Keeps s (effect s)) :
    Keeps s (takeItem item effect s) := by
  unfold takeItem
  split
  · exact h
  · exact .refl s

/-- A NAK or an ACK that is made leaves no frame to be acknowledged (R120, R121). -/
theorem keeps_acknowledged {f : ReceiveSide → ReceiveSide} (h : ∀ v, (f v).ackCount = 0) (bytes : List Byte) (s : State) :
    Keeps s (transmit bytes (updRecv f s)) := by
  refine Keeps.trans (keeps_updLink fun ⟨rx, replays, attempts, _, timeout⟩ => ⟨rx, replays, attempts, ?_, timeout⟩)
    (keeps_of_same rfl rfl)
  change (f s.link.recv).ackCount ≤ _
  rw [h]
  exact Nat.zero_le _

theorem keeps_takeTrainItem (s : State) : Keeps s (takeTrainItem s) :=
  (keeps_updLink fun ⟨rx, replays, attempts, rest⟩ => ⟨rx, replays, riseTo_le attempts, rest⟩).trans
    (keeps_of_same rfl rfl)

theorem keeps_takeReplayItem (s : State) : Keeps s (takeReplayItem s) := by
  unfold takeReplayItem
  split
  · exact keeps_of_same rfl rfl
  · exact .refl s

theorem keeps_takeAttentionAckItem (s : State) : Keeps s (takeAttentionAckItem s) := by
  unfold takeAttentionAckItem
  split
  · exact (keeps_updUnit (by rfl)).trans (keeps_sendMessage _ _)
  · exact .refl s

theorem keeps_takeCancelItem (s : State) : Keeps s (takeCancelItem s) := by
  unfold takeCancelItem
  split
  · exact .refl s
  · refine Keeps.trans (Keeps.trans ?_ (keeps_updTag fun complete => ⟨complete, rfl⟩)) (keeps_sendMessage _ _)
    exact keeps_of_same rfl rfl

theorem keeps_sendRequest {t : Tag} {s : State} (h : (s.tag t).state ≠ .complete) : Keeps s (sendRequest t s) := by
  refine keeps_of_tags (fun x _ hx => ?_) id (fun v => ?_) rfl
  · rw [tag_sendRequest, if_neg fun (e : x = t) => h (e ▸ hx)]
    exact ⟨hx, rfl⟩
  · rw [unit_sendRequest]
    split <;> rfl

theorem keeps_takeRequestItem (s : State) : Keeps s (takeRequestItem s) := by
  unfold takeRequestItem
  split
  · exact .refl s
  · next t choice =>
    have h : (s.tag t).state ≠ .complete := by simp [(eligible_of_dispatchChoice choice).queued]
    refine Keeps.trans (s' := sendRequest t s) ?_ (keeps_sendMessage _ _)
    exact keeps_sendRequest h

/-! ## Units and attentions -/

theorem keeps_takeUnitReport (u : UnitNo) (spaces : BitVec 4) (classCode : Halfword) (limit maxBlock : Byte) (s : State) :
    Keeps s (takeUnitReport u spaces classCode limit maxBlock s) := by
  unfold takeUnitReport
  split
  · exact (keeps_updUnit (by rfl)).trans (keeps_updEvents id rfl)
  · exact keeps_protocolError s

theorem keeps_takeReportEnd (s : State) : Keeps s (takeReportEnd s) := by
  unfold takeReportEnd
  split
  · exact keeps_of_same rfl rfl
  · exact keeps_protocolError s

theorem keeps_goneUnit (u : UnitNo) (s : State) :
    Keeps s { updUnit u goneUnit s with attnQueue := goneQueue u s.attnQueue } where
  selection := id
  attentions h := by
    refine h.of_counts ?_ (fun r hr => ?_) fun v a ha => ?_
    · rw [goneQueue, List.map_map]
      refine List.map_congr_left fun r _ => ?_
      rw [Function.comp_apply]
      split <;> rfl
    · obtain ⟨q, hq, rfl⟩ := List.mem_map.mp hr
      refine ⟨q, hq, ?_⟩
      split <;> rfl
    · have gone : ((updUnit u goneUnit s).unit v).held = some a := ha
      rw [unit_updUnit] at gone
      split at gone
      · cases gone
      · exact ⟨a, gone, rfl⟩
  counts := id
  flag := id

theorem keeps_takeUnitGone (u : UnitNo) (s : State) : Keeps s (takeUnitGone u s) := by
  by_cases present : (s.unit u).present = true
  · have settled := keeps_settleUnitTags u s
    rw [takeUnitGone_of_present present]
    generalize settleUnitTags u s = w at settled ⊢
    exact (settled.trans (keeps_goneUnit u w)).trans (keeps_of_same rfl rfl)
  · rw [takeUnitGone, if_neg present]
    exact keeps_protocolError s

/-- A count of attentions lies in its range (R101). -/
def Attn.InRange (a : Attn) : Prop := 1 ≤ a.count ∧ a.count ≤ 255

theorem AttentionsSound.held {s : State} (h : AttentionsSound s) {v : UnitNo} {a : Attn} (ha : (s.unit v).held = some a) :
    a.InRange := h.2.2 v a ha

theorem Attn.InRange.merge {a : Attn} (h : a.InRange) (number : Byte) (cause : Halfword) : (a.merge number cause).InRange := by
  obtain ⟨low, high⟩ := h
  refine ⟨?_, riseTo_le high⟩
  change 1 ≤ riseTo 255 a.count
  unfold riseTo
  split <;> omega

theorem Attn.inRange_first (number : Byte) (cause : Halfword) : (Attn.first number cause).InRange :=
  ⟨Nat.le_refl 1, Nat.le_add_left 1 254⟩

theorem Attn.InRange.absorb {a held : Attn} (h : a.InRange) : (Attn.absorb held a).InRange := by
  obtain ⟨low, -⟩ := h
  refine ⟨?_, Nat.min_le_left _ _⟩
  change 1 ≤ min 255 (a.count + held.count)
  omega

theorem Attn.inRange_hold {held : Option Attn} (h : ∀ a, held = some a → a.InRange) (number : Byte) (cause : Halfword) :
    (holdAttention number cause held).InRange := by
  cases held with
  | none => exact Attn.inRange_first number cause
  | some a => exact (h a rfl).merge number cause

/-- An attention that is merged or appended (R103, R105). -/
theorem AttentionsSound.put {s : State} (h : AttentionsSound s) (u : UnitNo) {merge : Attn → Attn} {fresh : Attn}
    (merged : ∀ a, a.InRange → (merge a).InRange) (new : fresh.InRange) :
    AttentionsSound { s with attnQueue := putInQueue u merge fresh s.attnQueue } := by
  obtain ⟨nodup, counts, held⟩ := h
  refine ⟨?_, fun r hr => ?_, held⟩
  · rw [units_putInQueue]
    split
    · rwa [List.append_nil]
    · next absent =>
      refine nodup.append (List.nodup_singleton u) (List.disjoint_singleton.mpr fun hu => absent ?_)
      obtain ⟨r, hr, e⟩ := List.mem_map.mp hu
      exact (queued_iff u s.attnQueue).mpr ⟨r, hr, e⟩
  · have hr : r ∈ putInQueue u merge fresh s.attnQueue := hr
    unfold putInQueue at hr
    split at hr
    · obtain ⟨q, hq, rfl⟩ := List.mem_map.mp hr
      split
      · exact merged q.attn (counts q hq)
      · exact counts q hq
    · obtain hr | hr := List.mem_append.mp hr
      · exact counts r hr
      · cases List.mem_singleton.mp hr
        exact new

/-- A unit's held attention is replaced. -/
theorem keeps_held {u : UnitNo} {f : UnitRecord → UnitRecord} {s : State}
    (h : AttentionsSound s → ∀ a, (f (s.unit u)).held = some a → a.InRange) : Keeps s (updUnit u f s) where
  selection := id
  attentions hs := by
    obtain ⟨nodup, counts, held⟩ := id hs
    refine ⟨nodup, counts, fun v a ha => ?_⟩
    rw [unit_updUnit] at ha
    split at ha
    · exact h hs a ha
    · exact held v a ha
  counts := id
  flag := id

theorem keeps_takeAttention (u : UnitNo) (number : Byte) (cause : Halfword) (s : State) :
    Keeps s (takeAttention u number cause s) := by
  unfold takeAttention
  split
  · split
    · refine keeps_held fun hs a ha => ?_
      cases ha
      exact Attn.inRange_hold (fun a ha => hs.held ha) number cause
    · exact keeps_attnQueue fun h => h.put u (fun a ha => ha.merge number cause) (Attn.inRange_first number cause)
  · exact keeps_protocolError s

theorem keeps_releaseHeld (u : UnitNo) (s : State) : Keeps s (releaseHeld u s) := by
  unfold releaseHeld
  split
  · exact .refl s
  · next a held =>
    refine ⟨id, fun h => ?_, id, id⟩
    refine (keeps_held ?_).attentions (h.put u (fun _ hb => hb.absorb) (h.held held))
    exact fun _ _ => nofun

theorem keeps_writeUnitMask (value : Halfword) (s : State) : Keeps s (writeUnitMask value s) := by
  unfold writeUnitMask
  refine Keeps.trans ?_ (keeps_updUnit (by rfl))
  split
  · exact keeps_releaseHeld _ s
  · exact .refl s

theorem keeps_oweAttentionAck (r : AttnRecord) (s : State) : Keeps s (oweAttentionAck r s) := by
  unfold oweAttentionAck
  split
  · exact keeps_updUnit (by rfl)
  · exact .refl s

theorem keeps_cmdPopAttention (operand : Byte) (s : State) : Keeps s (cmdPopAttention operand s) := by
  unfold cmdPopAttention
  split
  · exact (keeps_updHost (by rfl)).trans (keeps_setResult _ _)
  · next r rest queue =>
    refine Keeps.trans (s' := { s with attnQueue := rest }) (keeps_attnQueue fun ⟨nodup, counts, held⟩ => ?_)
      ((keeps_updHost (by rfl)).trans ((keeps_oweAttentionAck r _).trans (keeps_setResult _ _)))
    rw [queue] at nodup counts
    exact ⟨(List.nodup_cons.mp nodup).2, fun q hq => counts q (List.mem_cons_of_mem r hq), held⟩

/-! ## Received frames -/

theorem keeps_deliver (m : Inbound) (s : State) : Keeps s (deliver m s) := by
  cases m with
  | replyData t u final short offset count words => exact keeps_takeReply t u (dataReply final short offset count words) s
  | replyDone t u => exact keeps_takeReply t u (some .done) s
  | replyRefuse t u reason => exact keeps_takeReply t u (refuseReply reason) s
  | unitReport u spaces classCode limit maxBlock => exact keeps_takeUnitReport u spaces classCode limit maxBlock s
  | reportEnd => exact keeps_takeReportEnd s
  | unitGone u => exact keeps_takeUnitGone u s
  | attention u number cause => exact keeps_takeAttention u number cause s
  | undefined => exact keeps_protocolError s

theorem keeps_countRxError (s : State) : Keeps s (countRxError s) :=
  keeps_updLink fun ⟨rx, rest⟩ => ⟨riseTo_le rx, rest⟩

theorem keeps_oweNak (s : State) : Keeps s (updRecv ReceiveSide.oweNak s) := by
  refine keeps_updLink fun ⟨rx, replays, attempts, acks, timeout⟩ => ⟨rx, replays, attempts, ?_, timeout⟩
  change s.link.recv.oweNak.ackCount ≤ _
  unfold ReceiveSide.oweNak
  split <;> exact acks

theorem keeps_sequenceMessage (seq : SeqNo) (m : Inbound) (s : State) : Keeps s (sequenceMessage seq m s) := by
  unfold sequenceMessage
  simp only
  split
  · exact (keeps_updLink fun ⟨rx, replays, attempts, acks, timeout⟩ =>
      ⟨rx, replays, attempts, riseTo_le acks, timeout⟩).trans (keeps_deliver m (updRecv ReceiveSide.delivered s))
  · split
    · exact (keeps_countRxError s).trans (keeps_oweNak _)
    · exact keeps_of_same rfl rfl

/-- A frame with an epoch keeps the conditions where its two effects do. -/
theorem keeps_receiveInEpoch {epoch : Epoch} {inTraining inSession : State → State} {s : State}
    (ht : Keeps s (inTraining s)) (hs : Keeps s (inSession s)) : Keeps s (receiveInEpoch epoch inTraining inSession s) := by
  obtain ⟨-, h⟩ | ⟨-, -, h⟩ | ⟨-, -, h⟩ | ⟨-, -, h⟩ := receiveInEpoch_cases epoch inTraining inSession s <;> rw [h]
  · exact .refl s
  · exact keeps_countRxError s
  · exact ht
  · exact hs

theorem keeps_receiveMessage (h : MsgHeader) (m : Inbound) (s : State) : Keeps s (receiveMessage h m s) := by
  unfold receiveMessage discardMessage
  split
  case h_1 | h_2 =>
    split
    · exact keeps_protocolError s
    · exact .refl s
  all_goals exact keeps_receiveInEpoch (.refl s) (keeps_sequenceMessage h.seq m s)

theorem keeps_receiveTrain (s : State) : Keeps s (receiveTrain s) := by
  unfold receiveTrain
  split
  case h_1 | h_2 => exact keeps_linkLoss _ s
  case h_3 | h_4 =>
    split
    · exact keeps_enterTraining s
    · exact .refl s
  case h_5 => exact .refl s

theorem keeps_receiveTrainAck (epoch : Epoch) (s : State) : Keeps s (receiveTrainAck epoch s) :=
  keeps_receiveInEpoch (keeps_of_same rfl rfl) (.refl s)

theorem keeps_receiveAck (epoch : Epoch) (n : SeqNo) (s : State) : Keeps s (receiveAck epoch n s) :=
  keeps_receiveInEpoch (.refl s) (keeps_takeAck n s)

theorem keeps_receiveNak (epoch : Epoch) (n : SeqNo) (s : State) : Keeps s (receiveNak epoch n s) :=
  keeps_receiveInEpoch (.refl s) (keeps_takeNak n s)

theorem keeps_receiveRaw (f : RawFrame) (s : State) : Keeps s (receiveRaw f s) := by
  unfold receiveRaw receiveBroken
  split
  · split
    case h_1 | h_2 => exact .refl s
    case h_3 => exact keeps_countRxError s
    all_goals exact (keeps_countRxError s).trans (keeps_oweNak _)
  · next frame _ =>
    cases frame with
    | train e => exact keeps_receiveTrain s
    | trainAck e => exact keeps_receiveTrainAck e s
    | ack e n => exact keeps_receiveAck e n s
    | nak e n => exact keeps_receiveNak e n s
    | message h body => exact keeps_receiveMessage h _ s

end Sys2Proof.Machine
end

section
/-! SUPPORT. The host's commands and accesses, every command, and the lengths: the conditions of O59 are kept. -/

namespace Sys2Proof.Machine

/-! ## The host's commands -/

theorem keeps_updStaging {f : Staging → Staging} {s : State}
    (h : s.staging.payload.length ≤ Config.payloadLimit → (f s.staging).payload.length ≤ Config.payloadLimit) :
    Keeps s (updStaging f s) where
  selection := id
  attentions := id
  counts hc := by
    rw [countsInRange_iff] at hc ⊢
    obtain ⟨events, link, latch, payload⟩ := hc
    exact ⟨events, link, latch, h payload⟩
  flag := id

theorem keeps_fillTag {t : Tag} (k : Kind) {s : State} (h : (s.tag t).state ≠ .complete) : Keeps s (fillTag t k s) := by
  refine keeps_of_tags (fun x _ hx => ?_) id (fun v => rfl) rfl
  rw [tag_fillTag, if_neg fun (e : x = t) => h (e ▸ hx)]
  exact ⟨hx, rfl⟩

theorem keeps_placeTag {t : Tag} (k : Kind) {s : State} (h : (s.tag t).state ≠ .complete) : Keeps s (placeTag t k s) := by
  obtain ⟨-, e⟩ | ⟨-, -, e⟩ | ⟨-, -, e⟩ := placeTag_cases t k s <;> rw [e]
  · refine Keeps.trans (s' := updUnit (s.tag t).unit (fun r => { r with orderList := r.orderList ++ [t] }) s) ?_
      (keeps_of_same rfl rfl)
    exact keeps_updUnit rfl
  · exact keeps_act (.complete markEnding) (.inl h)
  · refine Keeps.trans ?_ (keeps_updUnit (by rfl))
    exact keeps_updTag fun complete => absurd complete h

theorem keeps_cmdSubmit (operand : Byte) (s : State) : Keeps s (cmdSubmit operand s) := by
  unfold cmdSubmit
  split
  · next k t check kind lowest =>
    have absent : (s.tag t).state ≠ .complete := by simp [free_of_lowestFreeTag lowest]
    have queued : ((fillTag t k s).tag t).state ≠ .complete := by simp [(fresh_fillTag t k s).state]
    have placed := (keeps_fillTag k absent).trans (keeps_placeTag k queued)
    rw [acceptSubmit_eq]
    generalize placeTag t k (fillTag t k s) = w at placed ⊢
    refine Keeps.trans (s' := { w with lastTag := t }) (placed.trans (keeps_of_same rfl rfl)) ?_
    refine Keeps.trans ?_ (keeps_setResult _ _)
    exact keeps_updStaging fun _ => Nat.zero_le _
  · exact keeps_setResult _ s

theorem keeps_onTag {command : Tag → State → State} {s : State} (h : ∀ t, Keeps s (command t s)) (operand : Byte) :
    Keeps s (onTag operand command s) := by
  unfold onTag
  split
  · exact keeps_setResult _ s
  · exact h _

theorem keeps_cancelTag (t : Tag) (s : State) : Keeps s (cancelTag t s) := by
  have cancelled (h : (s.tag t).state ≠ .complete) : Keeps s (setResult .done (completeAndRelease t
      ⟨.cancelled, none, .no, 0, false⟩ (updTag t (fun r => { r with cancelRequested := true }) s))) := by
    refine Keeps.trans (Keeps.trans ?_ (keeps_depart (.complete _) ?_)) (keeps_setResult _ _)
    · exact keeps_updTag fun complete => ⟨complete, rfl⟩
    · rwa [tag_updTag_self]
  unfold cancelTag
  split
  · exact keeps_setResult _ s
  cases state : (s.tag t).state <;> simp only
  case queued | waiting => exact cancelled (by simp [state])
  case sent | receiving => exact (keeps_enterCancelling .host (by simp [state])).trans (keeps_setResult _ _)
  case cancelling =>
    refine Keeps.trans ?_ (keeps_setResult _ _)
    exact keeps_updTag fun complete => ⟨complete, rfl⟩
  all_goals exact keeps_setResult _ s

/-- POP_RESULT: an emptied queue clears RESULT and stops the holdoff timer (R154). -/
theorem keeps_cmdPopResult (operand : Byte) (s : State) : Keeps s (cmdPopResult operand s) := by
  unfold cmdPopResult
  split
  · exact Keeps.trans (keeps_updHost rfl) (keeps_setResult _ _)
  · next c rest queue =>
    refine Keeps.trans ?_ (keeps_setResult _ _)
    have popped : Keeps s (updTag c.tag (fun r => { r with popped := true }) s) :=
      keeps_updTag fun complete => ⟨complete, rfl⟩
    rw [settlePop_eq]
    refine ⟨fun h => (popped.selection h), popped.attentions, fun h => ?_, fun _ empty => ?_⟩
    · have kept := popped.counts h
      rw [countsInRange_iff] at kept ⊢
      obtain ⟨events, link⟩ := kept
      refine ⟨?_, link⟩
      simp only
      split <;> exact events
    · rw [if_pos empty]
      exact ⟨rfl, rfl⟩

theorem dropSelection_act (f : Fate) (t : Tag) (s : State) : dropSelection t (f.act t s) = f.act t (dropSelection t s) := by
  have host : (f.act t s).host = s.host := by rw [f.act_eq]
  have events : (f.act t s).events = s.events := by rw [f.act_eq]
  unfold dropSelection
  rw [host]
  split
  · refine Eq.trans ?_
      (f.act_with t s { s.host with selected := none, readPointer := 0, readLimit := 0 } s.events).symm
    rw [← events]
    unfold updHost
    rw [host]
  · rfl

/-- The selection ends with the selected tag's release (R45). -/
theorem keeps_dropSelection (t : Tag) (s : State) :
    Keeps s (dropSelection t s) ∧ (dropSelection t s).host.selected ≠ some t := by
  unfold dropSelection
  split
  · exact ⟨⟨fun _ => ⟨rfl, rfl⟩, id, id, id⟩, nofun⟩
  · next other => exact ⟨.refl s, other⟩

theorem keeps_releaseTag (t : Tag) (s : State) : Keeps s (releaseTag t s) := by
  unfold releaseTag
  split
  case isFalse => exact keeps_setResult _ s
  split
  case isFalse => exact keeps_setResult _ s
  refine Keeps.trans ?_ (keeps_setResult _ _)
  obtain ⟨f, act⟩ : ∃ f : Fate, (if (s.tag t).farReplyPending then orphanTag t s else freeTag t s) = f.act t s := by
    split
    · exact ⟨.orphan, rfl⟩
    · exact ⟨.free, rfl⟩
  obtain ⟨dropped, other⟩ := keeps_dropSelection t s
  rw [act, dropSelection_act]
  exact dropped.trans (keeps_act f (.inr other))

theorem keeps_selectTag (t : Tag) (s : State) : Keeps s (selectTag t s) := by
  unfold selectTag
  split
  · next complete =>
    refine Keeps.trans (s' := updHost (fun h => { h with
      selected := some t, readPointer := 0, readLimit := (s.tag t).wordsDelivered }) s) ?_ (keeps_setResult _ _)
    exact ⟨fun _ => ⟨complete, rfl, Nat.zero_le _⟩, id, id, id⟩
  · exact keeps_setResult _ s

theorem keeps_cmdClearStaging (operand : Byte) (s : State) : Keeps s (cmdClearStaging operand s) := by
  refine Keeps.trans (Keeps.trans ?_ (keeps_updHost rfl)) (keeps_setResult _ _)
  exact keeps_updStaging fun _ => Nat.zero_le _

theorem keeps_cmdClearPosted (operand : Byte) (s : State) : Keeps s (cmdClearPosted operand s) := by
  refine Keeps.trans (s' := { s with latch := {} }) ⟨id, id, fun h => ?_, id⟩ (keeps_setResult _ _)
  rw [countsInRange_iff] at h ⊢
  obtain ⟨events, link, -, payload⟩ := h
  exact ⟨events, link, ⟨Nat.zero_le _, fun _ => rfl⟩, payload⟩

theorem keeps_cmdLinkStart (operand : Byte) (s : State) : Keeps s (cmdLinkStart operand s) := by
  unfold cmdLinkStart
  split
  case h_1 | h_2 => exact (keeps_enterTraining s).trans (keeps_setResult _ _)
  all_goals exact keeps_setResult _ s

theorem keeps_cmdLinkStop (operand : Byte) (s : State) : Keeps s (cmdLinkStop operand s) := by
  unfold cmdLinkStop
  split
  case h_1 | h_2 => exact (keeps_linkLoss _ s).trans (keeps_setResult _ _)
  case h_3 | h_4 =>
    refine Keeps.trans (Keeps.trans ?_ (keeps_changeState _ _)) (keeps_setResult _ _)
    exact keeps_of_same rfl rfl
  case h_5 => exact keeps_setResult _ s

/-! ## The resets -/

/-- A reset meets the conditions whatever was before, where it keeps the settings in their ranges. -/
theorem keeps_reset {s s' : State} (after : WasReset s') (selected : s'.host.selection = (none, 0, 0))
    (queue : s'.attnQueue = []) (counts : CountsInRange s → CountsInRange s')
    (flags : s'.events.coalescing = (false, none)) : Keeps s s' where
  selection _ := by
    simp only [HostPort.selection, Prod.mk.injEq] at selected
    obtain ⟨selected, pointer, limit⟩ := selected
    rw [selectionSound_iff, selected]
    exact ⟨fun _ => ⟨pointer, limit⟩, nofun⟩
  attentions _ := by
    refine attentionsSound_reset.of_same queue fun v => ?_
    rw [after.units, unit_reset]
  counts := counts
  flag _ _ := by
    simp only [EventUnit.coalescing, Prod.mk.injEq] at flags
    exact flags

theorem keeps_cmdSoftReset (operand : Byte) (s : State) : Keeps s (cmdSoftReset operand s) := by
  refine keeps_reset (wasReset_cmdSoftReset operand s) rfl rfl (fun h => ?_) rfl
  rw [countsInRange_iff] at h ⊢
  obtain ⟨⟨-, threshold⟩, ⟨-, -, -, -, timeout⟩, -⟩ := h
  exact ⟨⟨Nat.zero_le _, threshold⟩, ⟨Nat.zero_le _, Nat.zero_le _, Nat.zero_le _, Nat.zero_le _, timeout⟩,
    ⟨Nat.zero_le _, fun _ => rfl⟩, Nat.zero_le _⟩

theorem countsInRange_reset : CountsInRange State.reset := by
  unfold CountsInRange
  decide

theorem keeps_resetN (s : State) : Keeps s { State.reset with pending := s.pending, resetAsserted := true } :=
  keeps_reset wasReset_resetN rfl rfl (fun _ => countsInRange_reset) rfl

theorem keeps_issueCommand (code operand : Byte) (s : State) : Keeps s (issueCommand code operand s) := by
  have ite {p : Prop} [Decidable p] {a b : State} (ha : Keeps s a) (hb : Keeps s b) : Keeps s (if p then a else b) := by
    split
    · exact ha
    · exact hb
  exact ite (keeps_cmdSubmit operand s) <| ite (keeps_onTag (fun t => keeps_cancelTag t s) operand) <|
    ite (keeps_cmdPopResult operand s) <| ite (keeps_onTag (fun t => keeps_releaseTag t s) operand) <|
    ite (keeps_onTag (fun t => keeps_selectTag t s) operand) <| ite (keeps_cmdPopAttention operand s) <|
    ite (keeps_cmdClearStaging operand s) <| ite (keeps_cmdClearPosted operand s) <| ite (keeps_cmdLinkStart operand s) <|
    ite (keeps_cmdLinkStop operand s) <| ite (keeps_cmdSoftReset operand s) <| keeps_setResult _ s

/-! ## The host's accesses -/

theorem keeps_writeStgDataL (value : Halfword) (s : State) : Keeps s (writeStgDataL value s) := by
  unfold writeStgDataL
  split
  · next room =>
    refine keeps_updStaging fun _ => ?_
    rw [List.length_append]
    exact room
  · exact keeps_updEvents id rfl

theorem storedThreshold_inRange (n : Nat) : 1 ≤ storedThreshold n ∧ storedThreshold n ≤ 32 := by
  unfold storedThreshold
  split_ifs <;> omega

/-- A new threshold sets RESULT on no empty queue (R154). -/
theorem keeps_writeCoalesce (value : Halfword) (s : State) : Keeps s (writeCoalesce value s) where
  selection := id
  attentions := id
  counts h := by
    rw [countsInRange_iff] at h ⊢
    obtain ⟨⟨proto, -⟩, rest⟩ := h
    exact ⟨⟨proto, storedThreshold_inRange _⟩, rest⟩
  flag h empty := by
    have empty : s.results = [] := empty
    obtain ⟨clear, stopped⟩ := h empty
    refine ⟨?_, stopped⟩
    simp [writeCoalesce, empty, clear]

theorem storedReplayTimeout_inRange (n : Nat) : 2 ≤ storedReplayTimeout n ∧ storedReplayTimeout n ≤ 128 := by
  unfold storedReplayTimeout
  split_ifs <;> omega

theorem keeps_writeLinkTiming (value : Halfword) (s : State) : Keeps s (writeLinkTiming value s) :=
  keeps_updLink fun ⟨rx, replays, attempts, acks, _⟩ => ⟨rx, replays, attempts, acks, storedReplayTimeout_inRange _⟩

theorem keeps_clearLinkCounter (counter : LinkCounter) (s : State) : Keeps s (clearLinkCounter counter s) := by
  cases counter with
  | rxErrors =>
    refine keeps_updLink (f := fun l => { l with rxErrors := 0 }) ?_
    exact fun ⟨_, rest⟩ => ⟨Nat.zero_le _, rest⟩
  | replayCount =>
    refine keeps_updLink (f := fun l => { l with replayCount := 0 }) ?_
    exact fun ⟨rx, _, rest⟩ => ⟨rx, Nat.zero_le _, rest⟩

theorem keeps_clearProtoErrors (s : State) : Keeps s (clearProtoErrors s) :=
  keeps_updEvents (fun ⟨_, threshold⟩ => ⟨Nat.zero_le _, threshold⟩) rfl

theorem keeps_readRdDataH (s : State) : Keeps s (readRdDataH s) := by
  unfold readRdDataH
  split <;> exact keeps_of_same rfl rfl

/-- The read pointer rises where it is below the limit (R44). -/
theorem keeps_readRdDataL (s : State) : Keeps s (readRdDataL s) := by
  unfold readRdDataL
  split
  · next w word =>
    refine ⟨fun h => ?_, id, id, id⟩
    unfold portWord at word
    split at word
    · cases word
    next t selected =>
    split at word
    · next below =>
      obtain ⟨-, h⟩ := (selectionSound_iff s).mp h
      have post := (selectionSound_iff (updHost (fun h => { h with
        readData := lowHalf w, readPointer := h.readPointer + 1 }) s)).mpr
        ⟨fun none => (nomatch selected.symm.trans none), fun x hx =>
          have ⟨complete, limit, _⟩ := h x hx
          ⟨complete, limit, below⟩⟩
      exact post
    · cases word
  · exact keeps_of_same rfl rfl

theorem keeps_writeRegister (r : Reg) (value : Halfword) (s : State) : Keeps s (writeRegister r value s) := by
  cases r
  case cmd => exact keeps_issueCommand _ _ s
  case stgDataL => exact keeps_writeStgDataL value s
  case linkTiming => exact keeps_writeLinkTiming value s
  case resultCoalesce => exact keeps_writeCoalesce value s
  case rxErrors => exact keeps_clearLinkCounter .rxErrors s
  case replayCount => exact keeps_clearLinkCounter .replayCount s
  case unitMask => exact keeps_writeUnitMask value s
  case unitTimeout => exact keeps_updUnit (f := fun r => { r with replyTimeout := value }) rfl
  case protoErrors => exact keeps_clearProtoErrors s
  all_goals exact keeps_of_same rfl rfl

/-! ## Every command -/

/-- The appends of an event set RESULT and start the holdoff timer on a queue that is not empty (R154). -/
theorem keeps_appends (before : Nat) (s : State) :
    Keeps s { s with events := s.events.afterAppends before s.results.length } where
  selection := id
  attentions := id
  counts h := by
    rw [countsInRange_iff] at h ⊢
    obtain ⟨events, rest⟩ := h
    refine ⟨?_, rest⟩
    simp only [EventUnit.afterAppends]
    split <;> exact events
  flag h empty := by
    have empty : s.results = [] := empty
    rw [empty, List.length_nil, afterAppends_of_le (Nat.zero_le before)]
    exact h empty

theorem takeEvent_keeps {effect : State → State} {s t : State} (h : takeEvent effect s = .next t)
    (he : Keeps s (effect s)) : Keeps s t := by
  obtain ⟨-, rfl⟩ | ⟨-, rfl⟩ := takeEvent_cases h
  · exact .refl _
  · exact he.trans (keeps_appends _ _)

theorem takeRead_keeps {effect : State → State} {s t : State} (h : takeRead effect s = .next t)
    (he : Keeps s (effect s)) : Keeps s t := by
  cases hr : s.resetAsserted with
  | true =>
    rw [takeRead_of_asserted hr] at h
    cases h
    exact keeps_of_same rfl rfl
  | false =>
    rw [takeRead_of_released hr] at h
    exact takeEvent_keeps h he

/-- Every command keeps the selection, the attention records, the counts and RESULT sound. -/
theorem exec_keeps {c : Instr} {s t : State} (h : exec c s = .next t) : Keeps s t := by
  cases c with
  | submit operand => exact takeEvent_keeps h (keeps_cmdSubmit operand s)
  | cancel operand => exact takeEvent_keeps h (keeps_onTag (fun t => keeps_cancelTag t s) operand)
  | popResult operand => exact takeEvent_keeps h (keeps_cmdPopResult operand s)
  | release operand => exact takeEvent_keeps h (keeps_onTag (fun t => keeps_releaseTag t s) operand)
  | select operand => exact takeEvent_keeps h (keeps_onTag (fun t => keeps_selectTag t s) operand)
  | popAttention operand => exact takeEvent_keeps h (keeps_cmdPopAttention operand s)
  | clearStaging operand => exact takeEvent_keeps h (keeps_cmdClearStaging operand s)
  | clearPosted operand => exact takeEvent_keeps h (keeps_cmdClearPosted operand s)
  | linkStart operand => exact takeEvent_keeps h (keeps_cmdLinkStart operand s)
  | linkStop operand => exact takeEvent_keeps h (keeps_cmdLinkStop operand s)
  | softReset operand => exact takeEvent_keeps h (keeps_cmdSoftReset operand s)
  | badCode code operand => exact takeEvent_keeps h (keeps_issueCommand code operand s)
  | stgDataHWrite value => exact takeEvent_keeps h (keeps_of_same rfl rfl)
  | stgDataLWrite value => exact takeEvent_keeps h (keeps_writeStgDataL value s)
  | rdDataHRead => exact takeRead_keeps h (keeps_readRdDataH s)
  | rdDataLRead => exact takeRead_keeps h (keeps_readRdDataL s)
  | unitMaskWrite value => exact takeEvent_keeps h (keeps_writeUnitMask value s)
  | linkCtrlWrite value => exact takeEvent_keeps h (keeps_of_same rfl rfl)
  | eventsWrite value => exact takeEvent_keeps h (keeps_of_same rfl rfl)
  | eventEnWrite value => exact takeEvent_keeps h (keeps_of_same rfl rfl)
  | resultCoalesceWrite value => exact takeEvent_keeps h (keeps_writeCoalesce value s)
  | linkCounterWrite counter value => exact takeEvent_keeps h (keeps_clearLinkCounter counter s)
  | protoErrorsWrite value => exact takeEvent_keeps h (keeps_clearProtoErrors s)
  | unusedOffsetAccess place access =>
    cases access with
    | read => exact takeRead_keeps h (keeps_of_same rfl rfl)
    | write v => exact takeEvent_keeps h (keeps_of_same rfl rfl)
  | registerWrite register value => exact takeEvent_keeps h (keeps_writeRegister register value s)
  | resetN asserted =>
    cases asserted with
    | true =>
      cases h
      exact keeps_resetN s
    | false =>
      cases h
      exact keeps_of_same rfl rfl
  | lossOfSignal => exact takeEvent_keeps h (keeps_loseEstablished .signalLost s)
  | train epoch => exact takeEvent_keeps h (keeps_receiveTrain s)
  | trainAck epoch => exact takeEvent_keeps h (keeps_receiveTrainAck epoch s)
  | ack epoch number => exact takeEvent_keeps h (keeps_receiveAck epoch number s)
  | nak epoch number => exact takeEvent_keeps h (keeps_receiveNak epoch number s)
  | frameCheckFailure frame => exact takeEvent_keeps h (keeps_receiveRaw frame s)
  | messageOutOfSequence header | replyData header | replyDone header | replyRefuse header | unitReport header
  | reportEnd header | unitGone header | attention header | undefinedMessage header =>
    exact takeEvent_keeps h (keeps_receiveMessage header _ s)
  | replyTimerExpiry tag => exact takeEvent_keeps h (keeps_expireReplyTimerOf tag s)
  | cancelTimerExpiry tag => exact takeEvent_keeps h (keeps_expireCancelTimerOf tag s)
  | trainingIntervalEnd => exact takeEvent_keeps h (keeps_endTrainingInterval s)
  | discoveryTimerExpiry => exact takeEvent_keeps h (keeps_expireDiscoveryTimer s)
  | replayTimerExpiry => exact takeEvent_keeps h (keeps_expireReplayTimer s)
  | ackDelayTimerExpiry => exact takeEvent_keeps h (keeps_expireAckDelay s)
  | restartTimerExpiry => exact takeEvent_keeps h (keeps_expireRestartTimer s)
  | holdoffTimerExpiry => exact takeEvent_keeps h (keeps_holdoffExpiry s)
  | nakTake => exact takeEvent_keeps h (keeps_takeItem (keeps_acknowledged (fun _ => rfl) _ s))
  | ackTake => exact takeEvent_keeps h (keeps_takeItem (keeps_acknowledged (fun _ => rfl) _ s))
  | trainTake => exact takeEvent_keeps h (keeps_takeItem (keeps_takeTrainItem s))
  | replayTake => exact takeEvent_keeps h (keeps_takeItem (keeps_takeReplayItem s))
  | attentionAckTake => exact takeEvent_keeps h (keeps_takeItem (keeps_takeAttentionAckItem s))
  | cancelTake => exact takeEvent_keeps h (keeps_takeItem (keeps_takeCancelItem s))
  | requestTake => exact takeEvent_keeps h (keeps_takeItem (keeps_takeRequestItem s))
  | transmitEnd => exact takeEvent_keeps h (keeps_of_same rfl rfl)

/-- A condition that every command keeps, whatever waits, is kept by every step. -/
theorem keptByStep_of_exec {P : State → Prop} (waiting : ∀ (s : State) (q : List Instr), P s → P { s with pending := q })
    (command : ∀ {c : Instr} {s t : State}, exec c s = .next t → P s → P t) : KeptByStep P := by
  intro s t hs h
  unfold step at h
  split at h
  · cases h
    exact hs
  · next c rest _ => exact command h (waiting s rest hs)

/-! ## The lengths (Table 1.1) -/

/-- A record's length is 1 to 64 words, and its counts of words do not exceed it. -/
def TagRecord.LengthSound (r : TagRecord) : Prop :=
  1 ≤ r.length ∧ r.length ≤ 64 ∧ r.wordsReceived ≤ r.length ∧ r.wordsDelivered ≤ r.length

theorem lengthSound_blank : TagRecord.LengthSound {} := by
  unfold TagRecord.LengthSound
  decide

theorem TagRecord.LengthSound.completed {r : TagRecord} (h : r.LengthSound) {e : Ending} (delivered : e.delivered ≤ r.length) :
    (completedRecord e r).LengthSound := by
  obtain ⟨low, high, received, -⟩ := h
  exact ⟨low, high, received, delivered⟩

theorem TagRecord.LengthSound.settled {r : TagRecord} (h : r.LengthSound) (outcome : TxOutcome) :
    (settledRecord outcome r).LengthSound := by
  unfold settledRecord
  split
  case h_1 => exact h
  case h_2 => exact lengthSound_blank
  case h_3 => exact h
  all_goals
    split
    · exact lengthSound_blank
    · exact h.completed (Nat.zero_le _)

theorem TagRecord.LengthSound.fate {r : TagRecord} (h : r.LengthSound) {f : Fate} (fits : f.Fits r) :
    (f.record r).LengthSound := by
  cases f with
  | complete e => exact h.completed (fits.2.2 h.2.2.1)
  | free => exact lengthSound_blank
  | orphan => exact h

theorem stagedRecord_lengthSound {k : Kind} {s : State} (supplied : Supplied k s) (chunks : List ChunkNo) :
    (stagedRecord k chunks s.staging).LengthSound := by
  have length : 1 ≤ (if k.isBlock then s.staging.length.toNat else 1)
      ∧ (if k.isBlock then s.staging.length.toNat else 1) ≤ 64 := by
    split
    · next block => exact supplied.length block
    · decide
  exact ⟨length.1, length.2, Nat.zero_le _, Nat.zero_le _⟩

theorem Touches.lengthSound {t : Tag} {s s' : State} (h : Touches t s s') (hs : ∀ x, (s.tag x).LengthSound) :
    ∀ x, (s'.tag x).LengthSound := by
  refine forall_tag_of_one hs h.others ?_
  obtain ⟨low, high, received, delivered⟩ := hs t
  have received' := h.received received
  rw [h.own]
  exact ⟨low, high, received', delivered⟩

theorem TagEvent.lengthSound {c : Instr} {s s' : State} (he : TagEvent c s s') (hs : ∀ x, (s.tag x).LengthSound) :
    ∀ x, (s'.tag x).LengthSound := by
  cases he with
  | still => exact hs
  | @submitted k t check kind lowest =>
    have filled : ((fillTag t k s).tag t).LengthSound := by
      rw [tag_fillTag, if_pos rfl]
      exact stagedRecord_lengthSound (supplied_of_submitCheck check kind) _
    refine forall_tag_of_one (t := t) hs (fun x hx => by rw [tag_placeTag t x k _ hx, tag_fillTag, if_neg hx]) ?_
    obtain ⟨-, e⟩ | ⟨-, -, e⟩ | ⟨-, -, e⟩ := placeTag_cases t k (fillTag t k s) <;> rw [e]
    · exact filled
    · rw [tag_completeTag, if_pos rfl]
      exact filled.completed (Nat.zero_le _)
    · rw [updUnit_tag, tag_updTag_self]
      exact filled
  | @popped r rest queue command =>
    refine forall_tag_of_one (t := r.tag) hs (fun x hx => tag_updTag_of_ne hx _ { s with results := rest }) ?_
    rw [tag_updTag_self]
    exact hs r.tag
  | @released t complete popped =>
    refine forall_tag_of_one (t := t) hs (fun x hx => by rw [Fate.tag_act, if_neg hx]) ?_
    rw [Fate.tag_act, if_pos rfl]
    split
    · exact hs t
    · exact lengthSound_blank
  | touched live touch => exact touch.lengthSound hs
  | @segment s' t state posted touch =>
    have hs' := touch.lengthSound hs
    refine forall_tag_of_one (t := t) hs' (fun x hx => tag_updTag_of_ne hx _ _) ?_
    rw [tag_updTag_self]
    exact hs' t
  | @cancelling t cause state =>
    refine forall_tag_of_one (t := t) hs (fun x hx => by rw [tag_enterCancelling, if_neg hx]) ?_
    rw [tag_enterCancelling, if_pos rfl]
    exact hs t
  | @departed s' t f live touch fits =>
    intro x
    have hs' := touch.lengthSound hs
    obtain ⟨rfl, e⟩ | ⟨-, -, e⟩ | ⟨-, e⟩ := state_depart f t x (creditFor f t s') <;> rw [e, tag_creditFor]
    · exact (hs' x).fate fits
    · exact (hs' x).completed (Nat.zero_le _)
    · exact hs' x
  | @freed t orphaned =>
    refine forall_tag_of_one (t := t) hs (fun x hx => by rw [Fate.tag_act, if_neg hx]; rfl) ?_
    rw [Fate.tag_act, if_pos rfl]
    exact lengthSound_blank
  | @paid t complete owed =>
    refine forall_tag_of_one (t := t) hs (fun x hx => by rw [tag_updTag_of_ne hx]; rfl) ?_
    rw [tag_updTag_self]
    exact hs t
  | @requested t choice =>
    refine forall_tag_of_one (t := t) hs (fun x hx => by rw [tag_sendRequest, if_neg hx]) ?_
    rw [tag_sendRequest, if_pos rfl]
    exact hs t
  | @cancelSent t rest head =>
    refine forall_tag_of_one (t := t) hs (fun x hx => by rw [tag_sendCancel, if_neg hx]) ?_
    rw [tag_sendCancel, if_pos rfl]
    exact hs t
  | reported session accepted => exact hs
  | @unitGone u present =>
    intro x
    rw [updUnit_tag, tag_settleUnitTags]
    split
    · exact (hs x).settled _
    · exact hs x
  | linkLost reason =>
    intro x
    rw [tag_linkLoss]
    exact (hs x).settled _
  | reset command after =>
    intro x
    rw [after.tag]
    exact lengthSound_blank

/-- Settles O59: every command keeps the four conditions beside the tag table, and every event of the tag table the
lengths. -/
theorem keptSelectionAttentionsCounts : Obligations.KeptSelectionAttentionsCounts :=
  ⟨keptByStep_of_exec (fun _ _ => id) fun h => (exec_keeps h).selection,
    keptByStep_of_exec (fun _ _ => id) fun h => (exec_keeps h).attentions,
    keptByStep_of_exec (fun _ _ => id) fun h => (exec_keeps h).counts,
    keptByStep_of (fun ha h x => by rw [ha.tag]; exact h x) TagEvent.lengthSound,
    keptByStep_of_exec (fun _ _ => id) fun h => (exec_keeps h).flag⟩

end Sys2Proof.Machine
end

section
/-! SUPPORT. SELECT and the data ports (R42 to R44): O15. -/

namespace Sys2Proof.Machine

theorem readRdDataH_of_word {s : State} {w : Word} (h : portWord s = some w) :
    readRdDataH s = { s with host := { s.host with readData := highHalf w } } := by
  rw [readRdDataH, h]
  rfl

theorem readRdDataL_of_word {s : State} {w : Word} (h : portWord s = some w) :
    readRdDataL s =
      { s with host := { s.host with readData := lowHalf w, readPointer := s.host.readPointer + 1 } } := by
  rw [readRdDataL, h]
  rfl

/-- With nothing left to read either data port returns 0 and sets ACCESS (R43). -/
theorem readRdData_of_done {s : State} (h : portWord s = none) :
    readRdDataH s = { s with host := { s.host with readData := 0 }, events := { s.events with access := true } }
      ∧ readRdDataL s = { s with host := { s.host with readData := 0 }, events := { s.events with access := true } } := by
  rw [readRdDataH, readRdDataL, h]
  exact ⟨rfl, rfl⟩

theorem takeRead_next {s w : State} {effect : State → State} (released : s.resetAsserted = false) (he : effect s = w)
    (results : w.results.length ≤ s.results.length) : takeRead effect s = .next w := by
  rw [takeRead_of_released released]
  exact takeEvent_next released he results

/-- Settles O15, by the cases of SELECT and of the word at the read pointer. -/
theorem selectedDataIsRead : Obligations.SelectedDataIsRead := by
  unfold Obligations.SelectedDataIsRead
  intro s operand t released operandTag
  have select : cmdSelect operand s = selectTag t s := onTag_of_eq operandTag selectTag s
  refine ⟨fun complete => ?_, fun other => ?_, fun x selected below => ?_, fun done => ?_⟩
  · refine takeEvent_next released ?_ (Nat.le_refl _)
    rw [select, selectTag, if_pos complete]
    rfl
  · refine takeEvent_next released ?_ (Nat.le_refl _)
    rw [select, selectTag, if_neg other]
    rfl
  · have word := portWord_of_lt selected below
    rw [dataWord_eq] at word
    exact ⟨takeRead_next released (readRdDataH_of_word word) (Nat.le_refl _),
      takeRead_next released (readRdDataL_of_word word) (Nat.le_refl _)⟩
  · obtain ⟨high, low⟩ := readRdData_of_done (portWord_of_done done)
    exact ⟨takeRead_next released high (Nat.le_refl _), takeRead_next released low (Nat.le_refl _)⟩

end Sys2Proof.Machine

end

section
/-! SUPPORT. The words of a REQUEST (O51) and the words placed in chunks (O52). -/

namespace Sys2Proof.Machine

/-! ## The words of a REQUEST (R138, Table 9.5) -/

theorem toNat_ofNat_byte {n : Nat} (h : n < 256) : (BitVec.ofNat 8 n).toNat = n := by
  rw [BitVec.toNat_ofNat]
  exact Nat.mod_eq_of_lt h

theorem toNat_tagByte (t : Tag) : (tagByte t).toNat = t.val :=
  toNat_ofNat_byte (by have := t.isLt; omega)

theorem toNat_unitByte (u : UnitNo) : (unitByte u).toNat = u.val :=
  toNat_ofNat_byte (by have := u.isLt; omega)

theorem toNat_zero_append (m : BitVec 4) : (0#4 ++ m : BitVec 8).toNat = m.toNat := by
  refine (BitVec.toNat_append 0#4 m).trans ?_
  simp

/-- The payload carries words 0 to length − 1 of a WRITE BLOCK, each read from its place (R40). -/
theorem requestPayload_writeBlock {r : TagRecord} (h : r.kind = .writeBlock) (b : BufferStore) :
    (requestPayload r b).length = r.length
      ∧ ∀ n, n < r.length → (requestPayload r b)[n]? = some (readPlace r.chunkList n b) := by
  have payload : requestPayload r b = (List.range r.length).map fun n => readPlace r.chunkList n b := by
    rw [requestPayload, h]
  rw [payload]
  refine ⟨by rw [List.length_map, List.length_range], fun n hn => ?_⟩
  rw [List.getElem?_map, List.getElem?_range hn]
  rfl

/-- Settles O51: the header words are those of `requestBody`, read back byte by byte. -/
theorem requestCarriesRecord : Obligations.RequestCarriesRecord := by
  unfold Obligations.RequestCarriesRecord
  intro t r b
  refine ⟨_, _, requestPayload r b, rfl, byteOfWord_wordOfBytes_zero .., ?_, ?_, ?_, ?_, ?_, fun length => ?_,
    byteOfWord_wordOfBytes_three .., fun reads => ?_, fun single => ?_, fun block => requestPayload_writeBlock block b⟩
  · rw [byteOfWord_wordOfBytes_one, toNat_tagByte]
  · rw [byteOfWord_wordOfBytes_two, toNat_unitByte]
  · rw [byteOfWord_wordOfBytes_three, toNat_ofNat_byte (by have := r.kind.code_lt; omega)]
  · rw [byteOfWord_wordOfBytes_zero, toNat_ofNat_byte (by have := r.space.code_lt; omega)]
  · rw [byteOfWord_wordOfBytes_one]
    exact toNat_zero_append _
  · rw [byteOfWord_wordOfBytes_two, toNat_ofNat_byte length]
  · unfold requestPayload
    obtain kind | kind := reads <;> rw [kind]
  · unfold requestPayload
    obtain kind | kind := single <;> rw [kind]

/-! ## Words placed in chunks (R37, R41) -/

/-- Words placed from n on leave each word of the tag before n and behind them. -/
theorem readPlace_writePlaces_of_outside {chunkList : List ChunkNo} (hd : chunkList.Nodup) {n m : Nat} {words : List Word}
    (outside : m < n ∨ n + words.length ≤ m) (b : BufferStore) :
    readPlace chunkList m (writePlaces chunkList n words b) = readPlace chunkList m b := by
  induction words generalizing n b with
  | nil => rfl
  | cons w ws ih =>
    rw [List.length_cons] at outside
    rw [writePlaces_cons, ih (by omega), readPlace_writePlace_of_ne hd (by omega)]

/-- Word i of those placed from n on is read back as word n + i: the words placed after it go elsewhere. -/
theorem readPlace_writePlaces {chunkList : List ChunkNo} (hd : chunkList.Nodup) {n : Nat} {words : List Word}
    (room : n + words.length ≤ 16 * chunkList.length) (b : BufferStore) {i : Nat} {w : Word} (placed : words[i]? = some w) :
    readPlace chunkList (n + i) (writePlaces chunkList n words b) = w := by
  induction words generalizing n b i with
  | nil => cases placed
  | cons v vs ih =>
    rw [List.length_cons] at room
    rw [writePlaces_cons]
    cases i with
    | zero =>
      cases placed
      rw [readPlace_writePlaces_of_outside hd (by omega)]
      exact readPlace_writePlace_self (by omega) w b
    | succ i =>
      rw [← Nat.succ_add_eq_add_succ]
      exact ih (by omega) _ placed

theorem get_free_putChunks (cs : List ChunkNo) (b : BufferStore) (c : ChunkNo) :
    (putChunks cs b).free.get c = true ↔ b.free.get c = true ∨ c ∈ cs := by
  change (markChunks true cs b.free).get c = true ↔ _
  rw [get_markChunks]
  split
  · next listed => simp [listed]
  · next other => simp [other]

theorem get_free_takeChunks (cs : List ChunkNo) (b : BufferStore) (c : ChunkNo) :
    (takeChunks cs b).free.get c = true ↔ b.free.get c = true ∧ c ∉ cs := by
  change (markChunks false cs b.free).get c = true ↔ _
  rw [get_markChunks]
  split
  · next listed => simp [listed]
  · next other => simp [other]

/-- Settles O52, by induction on the words placed. -/
theorem placedWordsReadBack : Obligations.PlacedWordsReadBack := by
  unfold Obligations.PlacedWordsReadBack
  intro b chunkList n words m c hd room
  exact ⟨fun i w placed => readPlace_writePlaces hd room b placed,
    fun outside => readPlace_writePlaces_of_outside hd outside b,
    fun other => chunks_writePlaces_of_not_mem other n words b, free_writePlaces chunkList n words b,
    chunks_putChunks chunkList b, chunks_takeChunks chunkList b, get_free_putChunks chunkList b c,
    get_free_takeChunks chunkList b c⟩

end Sys2Proof.Machine

end

section
/-! SUPPORT. The ports: a frame, a host write and a host read act as the rows they decode to (O50). -/

namespace Sys2Proof

/-! ## The fields of a message (Table 9.6) -/

theorem extractLsb'_eq_of_bits {w : Word} {b : Byte} {low width : Nat}
    (bits : ∀ i, i < width → w.getLsbD (low + i) = b.getLsbD i) : w.extractLsb' low width = b.extractLsb' 0 width := by
  apply BitVec.eq_of_getLsbD_eq
  intro i hi
  simp [hi, bits i hi]

@[simp] theorem tagOfHeader_wordOfBytes (b0 b1 b2 b3 : Byte) :
    tagOfHeader (wordOfBytes b0 b1 b2 b3) = (b1.extractLsb' 0 5).toFin := by
  refine congrArg BitVec.toFin (extractLsb'_eq_of_bits fun i hi => ?_)
  rw [getLsbD_wordOfBytes, if_neg (by omega), if_neg (by omega), if_pos (by omega), Nat.add_sub_cancel_left]

@[simp] theorem unitOfHeader_wordOfBytes (b0 b1 b2 b3 : Byte) :
    unitOfHeader (wordOfBytes b0 b1 b2 b3) = (b2.extractLsb' 0 4).toFin := by
  refine congrArg BitVec.toFin (extractLsb'_eq_of_bits fun i hi => ?_)
  rw [getLsbD_wordOfBytes, if_neg (by omega), if_pos (by omega), Nat.add_sub_cancel_left]

@[simp] theorem highHalf_wordOfBytes (b0 b1 b2 b3 : Byte) : highHalf (wordOfBytes b0 b1 b2 b3) = (b0 ++ b1 : BitVec 16) := by
  apply BitVec.eq_of_getLsbD_eq
  intro i hi
  rw [highHalf, BitVec.getLsbD_extractLsb', getLsbD_wordOfBytes, BitVec.getLsbD_append, if_neg (by omega), if_neg (by omega)]
  by_cases low : i < 8
  · simp [hi, low, show 16 + i < 24 by omega]
  · simp [hi, low, show ¬ 16 + i < 24 by omega, show 16 + i - 24 = i - 8 by omega]

/-! ## The row of a message, by its code (Table 9.6) -/

section
variable (h : MsgHeader) (b1 b2 b3 c0 c1 c2 c3 : Byte) (words : List Word)

theorem messageRow_replyData : messageRow h (wordOfBytes 0x20#8 b1 b2 b3 :: wordOfBytes c0 c1 c2 c3 :: words)
    = .replyData h (b1.extractLsb' 0 5).toFin (b2.extractLsb' 0 4).toFin (b3.getLsbD 0) (b3.getLsbD 1) c0 c1 words := by
  simp [messageRow, parseMessage]

/-- A REPLY-DATA of one word is read with count and offset 0 (log entry 10). -/
theorem messageRow_replyData_short : messageRow h [wordOfBytes 0x20#8 b1 b2 b3]
    = .replyData h (b1.extractLsb' 0 5).toFin (b2.extractLsb' 0 4).toFin (b3.getLsbD 0) (b3.getLsbD 1) 0 0 [] := by
  simp [messageRow, parseMessage]

theorem messageRow_replyDone : messageRow h (wordOfBytes 0x21#8 b1 b2 b3 :: words)
    = .replyDone h (b1.extractLsb' 0 5).toFin (b2.extractLsb' 0 4).toFin := by
  simp [messageRow, parseMessage]

theorem messageRow_replyRefuse : messageRow h (wordOfBytes 0x22#8 b1 b2 b3 :: words)
    = .replyRefuse h (b1.extractLsb' 0 5).toFin (b2.extractLsb' 0 4).toFin b3 := by
  simp [messageRow, parseMessage]

theorem messageRow_unitReport : messageRow h (wordOfBytes 0x30#8 b1 b2 b3 :: wordOfBytes c0 c1 c2 c3 :: words)
    = .unitReport h (b2.extractLsb' 0 4).toFin (b3.extractLsb' 0 4) (c0 ++ c1) c2 c3 := by
  simp [messageRow, parseMessage]

theorem messageRow_unitReport_short : messageRow h [wordOfBytes 0x30#8 b1 b2 b3]
    = .undefinedMessage h [wordOfBytes 0x30#8 b1 b2 b3] := by
  simp [messageRow, parseMessage]

theorem messageRow_reportEnd : messageRow h (wordOfBytes 0x31#8 b1 b2 b3 :: words) = .reportEnd h := by
  simp [messageRow, parseMessage]

theorem messageRow_unitGone : messageRow h (wordOfBytes 0x32#8 b1 b2 b3 :: words)
    = .unitGone h (b2.extractLsb' 0 4).toFin := by
  simp [messageRow, parseMessage]

theorem messageRow_attention : messageRow h (wordOfBytes 0x33#8 b1 b2 b3 :: wordOfBytes c0 c1 c2 c3 :: words)
    = .attention h (b2.extractLsb' 0 4).toFin b3 (c0 ++ c1) := by
  simp [messageRow, parseMessage]

theorem messageRow_attention_short : messageRow h [wordOfBytes 0x33#8 b1 b2 b3]
    = .undefinedMessage h [wordOfBytes 0x33#8 b1 b2 b3] := by
  simp [messageRow, parseMessage]

theorem messageRow_undefined {b0 : Byte} (other : b0 ∉ [0x20#8, 0x21#8, 0x22#8, 0x30#8, 0x31#8, 0x32#8, 0x33#8]) :
    messageRow h (wordOfBytes b0 b1 b2 b3 :: words) = .undefinedMessage h (wordOfBytes b0 b1 b2 b3 :: words) := by
  simp only [List.mem_cons, List.not_mem_nil, or_false, not_or] at other
  simp [messageRow, parseMessage, other]

end

theorem decodeFrame_of_message {f : RawFrame} {h : MsgHeader} {body : List Word}
    (check : f.check.toOption = some (.message h body)) : decodeFrame f = messageRow h body := by
  cases passed : f.check with
  | error e =>
    rw [passed] at check
    cases check
  | ok frame =>
    rw [passed] at check
    cases check
    rw [decodeFrame, passed]

/-! ## The row of a host access -/

theorem decodeHostWrite_of_reg {n : Fin 64} {r : Reg} (h : Reg.ofIndex n = some r) (value : Halfword) :
    decodeHostWrite n value = r.writeRow value := by
  rw [decodeHostWrite, h]

theorem decodeHostWrite_of_unused {n : Fin 64} (h : Reg.ofIndex n = none) (value : Halfword) :
    ∃ place, decodeHostWrite n value = .unusedOffsetAccess place (.write value) := by
  rw [decodeHostWrite, h]
  exact ⟨_, rfl⟩

theorem Reg.readRow_eq_none_iff (r : Reg) : r.readRow = none ↔ r ≠ .rdDataH ∧ r ≠ .rdDataL := by
  cases r <;> simp [Reg.readRow]

/-- A read has no row where its offset is a register's, and that register is no data port. -/
theorem decodeHostRead_eq_none_iff (n : Fin 64) :
    decodeHostRead n = none ↔ ∃ r, Reg.ofIndex n = some r ∧ r.readRow = none := by
  unfold decodeHostRead
  cases Reg.ofIndex n with
  | none => simp
  | some r => simp

end Sys2Proof

namespace Sys2Proof.Machine

/-! ## What an event does, by its effect on the state it is taken in -/

theorem takeEvent_congr {effect other : State → State} {s : State} (h : effect s = other s) :
    takeEvent effect s = takeEvent other s := by
  rw [takeEvent, takeEvent, h]

/-! ## A frame acts as its row (R117) -/

theorem exec_messageRow (h : MsgHeader) (body : List Word) (s : State) :
    exec (messageRow h body) s = takeEvent (receiveMessage h (parseMessage body)) s := by
  unfold messageRow
  split
  case h_8 => rfl
  all_goals
    next parsed =>
    rw [parsed]
    rfl

theorem exec_decodeFrame (f : RawFrame) (s : State) : exec (decodeFrame f) s = exec (.frameCheckFailure f) s := by
  change _ = takeEvent (receiveRaw f) s
  cases check : f.check with
  | error e =>
    rw [decodeFrame, check]
    rfl
  | ok frame =>
    have raw : receiveRaw f s = receiveFrame frame s := by rw [receiveRaw, check]
    rw [takeEvent_congr raw, decodeFrame, check]
    cases frame with
    | message h body => exact exec_messageRow h body s
    | train | trainAck | ack | nak => rfl

/-! ## A host write acts as its row (R142, R144) -/

/-- A row chosen by the code acts as an event, where it does so under its code and the rows after it do. -/
theorem exec_ite {p : Prop} [Decidable p] {a b : Instr} {effect : State → State} {s : State}
    (chosen : p → exec a s = takeEvent effect s) (others : exec b s = takeEvent effect s) :
    exec (if p then a else b) s = takeEvent effect s := by
  split
  · next code => exact chosen code
  · exact others

theorem exec_decodeCommand (value : Halfword) (s : State) :
    exec (decodeCommand value) s = takeEvent (issueCommand (value.extractLsb' 8 8) (value.extractLsb' 0 8)) s := by
  unfold decodeCommand
  generalize (value.extractLsb' 8 8 : Byte) = code
  refine exec_ite ?_ <| exec_ite ?_ <| exec_ite ?_ <| exec_ite ?_ <| exec_ite ?_ <| exec_ite ?_ <| exec_ite ?_ <|
    exec_ite ?_ <| exec_ite ?_ <| exec_ite ?_ <| exec_ite ?_ rfl
  all_goals
    rintro rfl
    exact takeEvent_congr rfl

theorem exec_writeRow (r : Reg) (value : Halfword) (s : State) :
    exec (r.writeRow value) s = exec (.registerWrite r value) s := by
  cases r
  case cmd => exact exec_decodeCommand value s
  all_goals rfl

/-! ## A host read acts as its row, or changes nothing in the part (R141, R143) -/

theorem readEventAt_of_reg {n : Fin 64} {r : Reg} (h : Reg.ofIndex n = some r) (s : State) :
    readEventAt n s = readEvent r s := by
  rw [readEventAt, h]

theorem readEventAt_of_unused {n : Fin 64} (h : Reg.ofIndex n = none) (s : State) :
    readEventAt n s = accessUnused .read s := by
  rw [readEventAt, h]

theorem readOffset_of_asserted {s : State} (h : s.resetAsserted = true) (n : Fin 64) : readOffset n s = 0 := by
  rw [readOffset, if_pos h]

theorem readOffset_of_reg {s : State} (released : s.resetAsserted = false) {n : Fin 64} {r : Reg}
    (h : Reg.ofIndex n = some r) : readOffset n s = readRegister r s := by
  rw [readOffset, released, h]
  rfl

theorem readOffset_of_unused {n : Fin 64} (h : Reg.ofIndex n = none) (s : State) : readOffset n s = 0 := by
  rw [readOffset, h]
  exact ite_self _

theorem takeHostRead_of_released {s : State} (released : s.resetAsserted = false) (n : Fin 64) :
    takeHostRead n s = .next (readEventAt n s) := by
  refine takeRead_next released rfl (Nat.le_of_eq ?_)
  cases index : Reg.ofIndex n with
  | none =>
    rw [readEventAt_of_unused index]
    rfl
  | some r => rw [readEventAt_of_reg index, readEvent_results]

theorem takeHostRead_of_asserted {s : State} (asserted : s.resetAsserted = true) (n : Fin 64) :
    takeHostRead n s = .next { s with host := { s.host with readData := readOffset n s } } := by
  rw [readOffset_of_asserted asserted]
  exact takeRead_of_asserted asserted _

/-- A read puts the value at its offset on the bus. -/
theorem takeHostRead_readData (n : Fin 64) (s : State) :
    Answers (takeHostRead n s) (fun t => t.host.readData = readOffset n s) := by
  cases reset : s.resetAsserted with
  | true => exact ⟨_, takeHostRead_of_asserted reset n, rfl⟩
  | false =>
    refine ⟨_, takeHostRead_of_released reset n, ?_⟩
    cases index : Reg.ofIndex n with
    | none =>
      rw [readEventAt_of_unused index, readOffset_of_unused index]
      rfl
    | some r => rw [readEventAt_of_reg index, readOffset_of_reg reset index, readEvent_readData]

/-- The read of a data port or of an unused offset acts as its row. -/
theorem takeHostRead_of_row {n : Fin 64} {c : Instr} (row : decodeHostRead n = some c) (s : State) :
    takeHostRead n s = exec c s := by
  unfold takeHostRead
  unfold decodeHostRead at row
  cases index : Reg.ofIndex n with
  | none =>
    rw [index] at row
    cases row
    rw [funext (readEventAt_of_unused index)]
    rfl
  | some r =>
    rw [index] at row
    rw [funext (readEventAt_of_reg index)]
    cases r <;> cases row <;> rfl

/-- The read of any other register changes nothing in the part. -/
theorem takeHostRead_of_no_row {n : Fin 64} (row : decodeHostRead n = none) (s : State) :
    takeHostRead n s = .next { s with host := { s.host with readData := readOffset n s } } := by
  obtain ⟨r, index, none⟩ := (decodeHostRead_eq_none_iff n).mp row
  obtain reset | reset := Bool.eq_false_or_eq_true s.resetAsserted
  · exact takeHostRead_of_asserted reset n
  · rw [takeHostRead_of_released reset, readEventAt_of_reg index, readEvent_of_no_row none, readOffset_of_reg reset index]

/-- Settles O50, by the check of the frame, by the register at the offset, and by the code of the message. -/
theorem portsActAsTheirRows : Obligations.PortsActAsTheirRows := by
  unfold Obligations.PortsActAsTheirRows
  intro s f r value n h b0 b1 b2 b3 c0 c1 c2 c3 words w0 w1 tag unit
  have write (index : Reg.ofIndex n = some r) :
      exec (decodeHostWrite n value) s = exec (.registerWrite r value) s := by
    rw [decodeHostWrite_of_reg index, exec_writeRow]
  have unread : decodeHostRead n = none ↔ ∃ x, Reg.ofIndex n = some x ∧ x ≠ .rdDataH ∧ x ≠ .rdDataL := by
    simp only [decodeHostRead_eq_none_iff, Reg.readRow_eq_none_iff]
  exact ⟨exec_decodeFrame f s, exec_writeRow r value s, write, takeHostRead_readData n s,
    fun c row => takeHostRead_of_row row s, fun row => takeHostRead_of_no_row row s, unread, rfl,
    fun x index => decodeHostWrite_of_reg index value, fun index => decodeHostWrite_of_unused index value,
    rfl, rfl, rfl, rfl, rfl, rfl, rfl, rfl, rfl, rfl, rfl,
    messageRow_replyData .., messageRow_replyDone .., messageRow_replyRefuse .., messageRow_unitReport ..,
    messageRow_reportEnd .., messageRow_unitGone .., messageRow_attention .., rfl, messageRow_replyData_short ..,
    messageRow_unitReport_short .., messageRow_attention_short .., messageRow_undefined h b1 b2 b3 words,
    decodeFrame_of_message⟩

end Sys2Proof.Machine

end

section
/-! SUPPORT. Where each item of Table 4.2 applies and when the arbiter takes it (O45), and the takes of control and replayed
frames (O46). -/

namespace Sys2Proof.Machine

/-! ## The items of Table 4.2, each where it applies -/

theorem applies_nak_iff (s : State) : applies s .nak = true ↔ s.link.recv.nakOwed = true := .rfl

theorem applies_ack_iff (s : State) : applies s .ack = true ↔ s.link.recv.ackOwed = true ∧ InSession s := by
  simp [applies, InSession]

theorem applies_train_iff (s : State) : applies s .train = true ↔ s.link.state = .training ∧ s.link.trainDue = true := by
  simp [applies]

theorem admitted_iff (s : State) :
    admitted s = true ↔ s.link.state = .up ∧ s.link.send.replayList.length < 8 ∧ s.link.send.pass = none := by
  simp only [admitted, Bool.and_eq_true, decide_eq_true_eq, Option.isNone_iff_eq_none, and_assoc]
  rfl

theorem ackOwedUnit_isSome_iff (s : State) : (ackOwedUnit s).isSome = true ↔ ∃ u, (s.unit u).ackOwed.isSome = true := by
  simp [ackOwedUnit, allUnits, List.findSome?_isSome_iff]

theorem applies_attentionAck_iff (s : State) :
    applies s .attentionAck = true ↔ admitted s = true ∧ ∃ u, (s.unit u).ackOwed.isSome = true := by
  rw [← ackOwedUnit_isSome_iff]
  simp [applies]

theorem applies_cancel_iff (s : State) : applies s .cancel = true ↔ admitted s = true ∧ s.owedCancels ≠ [] := by
  simp [applies]

theorem applies_request_iff (s : State) :
    applies s .request = true ↔ admitted s = true ∧ ∃ t ∈ s.dispatchQueue, eligible s t = true := by
  simp [applies, dispatchChoice, List.find?_isSome]

/-! ## The arbiter's choice -/

/-- What the arbiter takes applies (R56). -/
theorem applies_of_choice {s : State} {item : TxItem} (h : arbiterChoice s = some item) : applies s item = true := by
  unfold arbiterChoice at h
  split at h
  · exact List.find?_some h
  · cases h

theorem idle_of_choice {s : State} {item : TxItem} (h : arbiterChoice s = some item) : s.link.transmitter = none := by
  unfold arbiterChoice at h
  split at h
  · next idle => exact Option.isNone_iff_eq_none.mp idle
  · cases h

/-- No entry before the first that holds does. -/
theorem not_of_mem_takeWhile_of_find? {α : Type} [DecidableEq α] {p : α → Bool} {l : List α} {a b : α}
    (found : l.find? p = some b) (before : a ∈ l.takeWhile (fun x => x ≠ b)) : ¬ p a = true := by
  obtain ⟨holds, front, rest, rfl, fails⟩ := List.find?_eq_some_iff_append.mp found
  have differs : ∀ x ∈ front, decide (x ≠ b) = true := fun x hx => by
    have := fails x hx
    exact decide_eq_true fun e => by simp [e, holds] at this
  rw [List.takeWhile_append_of_pos differs] at before
  simpa using fails a (by simpa using before)

/-- No item above the arbiter's choice applies (R57). -/
theorem not_applies_of_above_choice {s : State} {item above : TxItem} (h : arbiterChoice s = some item)
    (order : above ∈ arbiterOrder.takeWhile (fun x => x ≠ item)) : ¬ applies s above = true := by
  unfold arbiterChoice at h
  split at h
  · exact not_of_mem_takeWhile_of_find? h order
  · cases h

/-- A take made out of turn changes nothing, and so answers the state that it was taken in (log entry 3). -/
theorem take_of_not {s : State} {item : TxItem} {turn : Prop} (released : s.resetAsserted = false)
    (needs : arbiterChoice s = some item → turn) (effect : State → State) (out : ¬ turn) :
    takeEvent (takeItem item effect) s = .next s :=
  takeEvent_next released (takeItem_of_ne (fun choice => out (needs choice)) effect) (Nat.le_refl _)

/-- Settles O45: the arbiter's choice meets every condition of its take. -/
theorem takesFollowArbiterOrder : Obligations.TakesFollowArbiterOrder := by
  intro s released l nak ack train replay admits attention cancel request idle
  have noNak {item : TxItem} (choice : arbiterChoice s = some item)
      (order : TxItem.nak ∈ arbiterOrder.takeWhile (fun x => x ≠ item)) : ¬ nak :=
    not_applies_of_above_choice choice order
  have noAck {item : TxItem} (choice : arbiterChoice s = some item)
      (order : TxItem.ack ∈ arbiterOrder.takeWhile (fun x => x ≠ item)) : ¬ ack :=
    mt (applies_ack_iff s).mpr (not_applies_of_above_choice choice order)
  have noTrain {item : TxItem} (choice : arbiterChoice s = some item)
      (order : TxItem.train ∈ arbiterOrder.takeWhile (fun x => x ≠ item)) : ¬ train :=
    mt (applies_train_iff s).mpr (not_applies_of_above_choice choice order)
  have noAttention {item : TxItem} (choice : arbiterChoice s = some item) (admits : admitted s = true)
      (order : TxItem.attentionAck ∈ arbiterOrder.takeWhile (fun x => x ≠ item)) : ¬ attention :=
    fun owed => not_applies_of_above_choice choice order ((applies_attentionAck_iff s).mpr ⟨admits, owed⟩)
  refine ⟨take_of_not released (fun choice => ?_) _, take_of_not released (fun choice => ?_) _,
    take_of_not released (fun choice => ?_) _, take_of_not released (fun choice => ?_) _,
    take_of_not released (fun choice => ?_) _, take_of_not released (fun choice => ?_) _,
    take_of_not released (fun choice => ?_) _⟩
  · exact ⟨idle_of_choice choice, applies_of_choice choice⟩
  · exact ⟨idle_of_choice choice, noNak choice (by decide), (applies_ack_iff s).mp (applies_of_choice choice)⟩
  · exact ⟨idle_of_choice choice, noNak choice (by decide), noAck choice (by decide),
      (applies_train_iff s).mp (applies_of_choice choice)⟩
  · exact ⟨idle_of_choice choice, noNak choice (by decide), noAck choice (by decide), noTrain choice (by decide),
      applies_of_choice choice⟩
  · obtain ⟨admits, owed⟩ := (applies_attentionAck_iff s).mp (applies_of_choice choice)
    exact ⟨idle_of_choice choice, noNak choice (by decide), noAck choice (by decide), (admitted_iff s).mp admits, owed⟩
  · obtain ⟨admits, owed⟩ := (applies_cancel_iff s).mp (applies_of_choice choice)
    exact ⟨idle_of_choice choice, noNak choice (by decide), noAck choice (by decide), (admitted_iff s).mp admits,
      noAttention choice admits (by decide), owed⟩
  · obtain ⟨admits, offered⟩ := (applies_request_iff s).mp (applies_of_choice choice)
    have noCancel : ¬ cancel := fun owed =>
      not_applies_of_above_choice choice (by decide) ((applies_cancel_iff s).mpr ⟨admits, owed⟩)
    exact ⟨idle_of_choice choice, noNak choice (by decide), noAck choice (by decide), (admitted_iff s).mp admits,
      noAttention choice admits (by decide), noCancel, offered⟩

/-! ## Control and replayed frames -/

/-- With the transmitter idle the arbiter takes the first item that applies (R56, R57). -/
theorem choice_of_idle {s : State} (idle : s.link.transmitter = none) :
    arbiterChoice s = arbiterOrder.find? (applies s) := by simp [arbiterChoice, idle]

/-- Settles O46: each take is the arbiter's choice, and its effect is the frame and what it clears or moves on. -/
theorem controlTakesSendFrames : Obligations.ControlTakesSendFrames := by
  intro s i f released l v
  refine ⟨fun idle owed => takeEvent_next released ?_ (Nat.le_refl _),
    fun idle noNak owed session => takeEvent_next released ?_ (Nat.le_refl _),
    fun idle noNak noAck noTraining pass frame => takeEvent_next released ?_ (Nat.le_refl _),
    takeEvent_next released rfl (Nat.le_refl _)⟩
  · have nak := (applies_nak_iff s).mpr owed
    rw [takeItem_of_eq (by simp [choice_of_idle idle, arbiterOrder, nak])]
    rfl
  · have nak : ¬ applies s .nak = true := Bool.eq_false_iff.mp noNak
    have ack := (applies_ack_iff s).mpr ⟨owed, session⟩
    rw [takeItem_of_eq (by simp [choice_of_idle idle, arbiterOrder, nak, ack])]
    rfl
  · have nak : ¬ applies s .nak = true := Bool.eq_false_iff.mp noNak
    have ack : ¬ applies s .ack = true := fun h => Bool.eq_false_iff.mp noAck ((applies_ack_iff s).mp h).1
    have train : ¬ applies s .train = true := fun h => noTraining ((applies_train_iff s).mp h).1
    have next : replayFrame s.link.send = some f := by
      rw [replayFrame, pass]
      exact frame
    have replay : applies s .replay = true := by simp [applies, next]
    rw [takeItem_of_eq (by simp [choice_of_idle idle, arbiterOrder, nak, ack, train, replay]), takeReplayItem, next, pass]
    rfl

end Sys2Proof.Machine
end

section
/-! SUPPORT. The eligible tags (O48). -/

namespace Sys2Proof.Machine

theorem inFlight_iff (p : TagState) :
    p.inFlight = true ↔ p = .sent ∨ p = .receiving ∨ p = .cancelling ∨ p = .posted := by
  cases p <;> simp [TagState.inFlight]

/-- Of two entries of a list one stands before the other. -/
theorem mem_takeWhile_ne_or {α : Type} [DecidableEq α] {l : List α} {a b : α} (ha : a ∈ l) (hb : b ∈ l) (ne : a ≠ b) :
    a ∈ l.takeWhile (fun x => x ≠ b) ∨ b ∈ l.takeWhile (fun x => x ≠ a) := by
  induction l with
  | nil => cases ha
  | cons x l ih =>
    by_cases hxa : x = a
    · exact .inl (by simp [hxa, ne])
    by_cases hxb : x = b
    · exact .inr (by simp [hxb, ne.symm])
    have order := ih (List.mem_of_ne_of_mem (Ne.symm hxa) ha) (List.mem_of_ne_of_mem (Ne.symm hxb) hb)
    simpa [List.takeWhile_cons, hxa, hxb, Ne.symm hxa, Ne.symm hxb] using order

/-- A tag is eligible by the conditions of R50, and while the link is UP (R51). -/
theorem eligible_iff (s : State) (t : Tag) : eligible s t = true ↔ Eligible t s ∧ s.link.state = .up := by
  simp only [eligible, Bool.and_eq_true, decide_eq_true_eq, List.all_eq_true]
  exact ⟨fun ⟨⟨⟨queued, ahead⟩, credit⟩, up⟩ => ⟨⟨queued, ahead, credit⟩, up⟩,
    fun ⟨⟨queued, ahead, credit⟩, up⟩ => ⟨⟨⟨queued, ahead⟩, credit⟩, up⟩⟩

/-- A QUEUED tag does not stand ahead of an eligible one of its unit (R50). -/
theorem Eligible.not_ahead {s : State} {t x : Tag} (h : Eligible t s) (queued : (s.tag x).state = .queued) :
    x ∉ (s.unit (s.tag t).unit).orderList.takeWhile (fun y => y ≠ t) := fun ahead => by
  have := h.ahead x ahead
  rw [queued] at this
  cases this

/-- Settles O48: of two eligible tags of a unit one would stand ahead of the other, and it is QUEUED. -/
theorem oneEligibleTagPerUnit : Obligations.OneEligibleTagPerUnit := by
  intro s t x
  refine ⟨?_, fun exact ht hx unit => ?_⟩
  · simp only [eligible_iff, ← inFlight_iff]
    exact ⟨fun ⟨⟨queued, ahead, credit⟩, up⟩ => ⟨queued, ahead, credit, up⟩,
      fun ⟨queued, ahead, credit, up⟩ => ⟨⟨queued, ahead, credit⟩, up⟩⟩
  · obtain ⟨ht, -⟩ := (eligible_iff s t).mp ht
    obtain ⟨hx, -⟩ := (eligible_iff s x).mp hx
    by_contra ne
    obtain ⟨-, members⟩ := exact (s.tag t).unit
    have listed {y : Tag} (same : (s.tag y).unit = (s.tag t).unit) (queued : (s.tag y).state = .queued) :
        y ∈ (s.unit (s.tag t).unit).orderList := (members y).mpr ⟨same, by rw [queued]; rfl⟩
    obtain ahead | ahead := mem_takeWhile_ne_or (listed rfl ht.queued) (listed unit.symm hx.queued) ne
    · exact hx.not_ahead ht.queued (unit ▸ ahead)
    · exact ht.not_ahead hx.queued ahead

end Sys2Proof.Machine
end

section
/-! SUPPORT. The link controller of a state is sound, said of the controller alone, and kept by each of its changes (O58). -/

namespace Sys2Proof.Machine

/-! ## The condition, of the link controller alone -/

/-- What the replay list, its pass, its timer and its episode keep of each other (R122, R125, R126). -/
structure SendSide.Sound (d : SendSide) : Prop where
  room : d.replayList.length ≤ Config.replayListLimit
  numbered : ∀ i f, d.replayList[i]? = some f → f.seq = d.next - BitVec.ofNat 5 (d.replayList.length - i)
  pass : ∀ i, d.pass = some i → i < d.replayList.length
  timer : d.replayTimer.isSome = true ↔ d.replayList ≠ []
  episode : d.episode ≤ Config.episodeLimit

/-- The link controller's part of SendSideSound and LinkTimersSound: all that the two speak of. -/
structure Link.Sound (l : Link) : Prop where
  send : l.send.Sound
  unsent : l.state ≠ .up → l.send.replayList = []
  training : l.trainDue = true ∨ l.trainingInterval.isSome = true → l.state = .training
  discovery : l.discoveryTimer.isSome = true ↔ l.state = .discovery
  restart : l.restartTimer.isSome = true ↔ l.state = .faulted ∧ l.autoRestart = true
  recv : l.state ≠ .discovery → l.state ≠ .up → l.recv = {}
  idle : l.state = .down ∨ l.state = .faulted → l.transmitter = none
  faulted : l.state = .faulted → l.afterLoss = true
  loss : l.afterLoss = true → l.state = .down ∨ l.state = .faulted

theorem linkSound_iff (s : State) : SendSideSound s ∧ LinkTimersSound s ↔ s.link.Sound :=
  ⟨fun ⟨⟨room, numbered, pass, timer, episode, unsent⟩, training, discovery, restart, recv, idle, faulted, loss⟩ =>
    ⟨⟨room, numbered, pass, timer, episode⟩, unsent, training, discovery, restart, recv, idle, faulted, loss⟩,
   fun ⟨⟨room, numbered, pass, timer, episode⟩, unsent, training, discovery, restart, recv, idle, faulted, loss⟩ =>
    ⟨⟨room, numbered, pass, timer, episode, unsent⟩, training, discovery, restart, recv, idle, faulted, loss⟩⟩

/-! ## The replay list -/

theorem sendSideSound_start : SendSide.Sound {} where
  room := Nat.zero_le _
  numbered _ _ h := by simp at h
  pass _ h := nomatch h
  timer := by simp
  episode := Nat.zero_le _

/-- A new frame takes the next number at the tail, and the frames before it are one number further from the next (R122). -/
theorem SendSide.Sound.append {d : SendSide} (h : d.Sound) (room : d.replayList.length < Config.replayListLimit)
    (bytes : List Byte) (setting : Nat) :
    SendSide.Sound { d with
      next := d.next + 1
      replayList := d.replayList ++ [⟨d.next, bytes⟩]
      replayTimer := if d.replayList = [] then some setting else d.replayTimer } where
  room := by
    rw [List.length_append]
    exact room
  numbered i f hf := by
    rw [List.length_append, List.length_singleton]
    change f.seq = d.next + 1 - _
    obtain hi | hi := Nat.lt_or_ge i d.replayList.length
    · rw [List.getElem?_append_left hi] at hf
      rw [h.numbered i f hf, Nat.sub_add_comm (Nat.le_of_lt hi), BitVec.ofNat_add]
      exact (add_sub_add_right_eq_sub _ _ _).symm
    · rw [List.getElem?_append_right hi, List.getElem?_singleton] at hf
      split at hf
      · next tail =>
        cases hf
        rw [Nat.le_antisymm (Nat.sub_eq_zero_iff_le.mp tail) hi, Nat.add_sub_cancel_left]
        exact (add_sub_cancel_right d.next 1).symm
      · cases hf
  pass i hi := by
    rw [List.length_append]
    exact Nat.lt_succ_of_lt (h.pass i hi)
  timer := by
    split
    · simp
    · next frames => simpa using h.timer.mpr frames
  episode := h.episode

/-- A pass goes on to the next frame of the list, and ends where there is none (R126). -/
theorem SendSide.Sound.advancePass {d : SendSide} (h : d.Sound) (i : Nat) : (d.advancePass i).Sound where
  room := h.room
  numbered := h.numbered
  pass j hj := by
    unfold SendSide.advancePass at hj
    split at hj
    · next hi => 
      cases hj
      exact hi
    · cases hj
  timer := h.timer
  episode := h.episode

/-- A pass from the head needs a frame to send (R126). -/
theorem SendSide.Sound.passFromHead {d : SendSide} (h : d.Sound) (frames : d.replayList ≠ []) :
    SendSide.Sound { d with pass := some 0 } :=
  { h with pass := fun i hi => by cases hi; exact List.length_pos_iff.mpr frames }

/-- A demand that is met starts a pass and the replay timer, whether the timer ran before or not (R126). -/
theorem SendSide.Sound.demand {d : SendSide} {timer : Timer} (h : SendSide.Sound { d with replayTimer := timer })
    (frames : d.replayList ≠ []) (below : d.episode < Config.episodeLimit) (setting : Nat) :
    SendSide.Sound { d with pass := some 0, episode := d.episode + 1, replayTimer := some setting } where
  room := h.room
  numbered := h.numbered
  pass i hi := by
    cases hi
    exact List.length_pos_iff.mpr frames
  timer := iff_of_true rfl frames
  episode := below

/-- The oldest unacknowledged number lies as far behind the next one as the list is long (R122). -/
theorem SendSide.Sound.window {d : SendSide} (h : d.Sound) : (d.next - d.oldest).toNat = d.replayList.length := by
  have room : d.replayList.length ≤ 8 := h.room
  unfold SendSide.oldest
  split
  · next empty => simp [empty]
  · next f rest frames =>
    rw [h.numbered 0 f (by rw [frames]; rfl), Nat.sub_zero, sub_sub_cancel, BitVec.toNat_ofNat]
    omega

/-- The frames that an acknowledgement leaves keep their numbers, and the pass its frame (R123). -/
theorem SendSide.Sound.acknowledge {d : SendSide} (h : d.Sound) (setting : Nat) (n : SeqNo) :
    (d.acknowledge setting n).Sound := by
  by_cases removed : (n - d.oldest).toNat = 0
  · rwa [acknowledge_of_none removed]
  rw [acknowledge_of_some removed]
  generalize (n - d.oldest).toNat = removed
  refine ⟨?_, fun i f hf => ?_, fun i hi => ?_, ?_, Nat.zero_le _⟩
  · exact (List.drop_sublist _ _).length_le.trans h.room
  · simp only [List.getElem?_drop] at hf
    rw [h.numbered _ f hf, List.length_drop, Nat.sub_add_eq]
  · simp only at hi ⊢
    split at hi
    · cases hi
    next left =>
    obtain ⟨j, hj, rfl⟩ := Option.map_eq_some_iff.mp hi
    have := h.pass j hj
    have := List.length_pos_iff.mpr left
    rw [List.length_drop] at this ⊢
    omega
  · simp only
    split
    · next left => simp [left]
    · next left => exact iff_of_true rfl left

theorem acknowledge_unsent {d : SendSide} (h : d.replayList = []) (setting : Nat) (n : SeqNo) :
    (d.acknowledge setting n).replayList = [] := by
  by_cases removed : (n - d.oldest).toNat = 0
  · rwa [acknowledge_of_none removed]
  · simp [acknowledge_of_some removed, h]

/-- A number of the window other than the next one leaves its frame on the list (R124). -/
theorem SendSide.Sound.acknowledge_frames {d : SendSide} (h : d.Sound) {n : SeqNo} (window : d.inWindow n = true)
    (sent : n ≠ d.next) (setting : Nat) : (d.acknowledge setting n).replayList ≠ [] := by
  have window : (n - d.oldest).toNat ≤ (d.next - d.oldest).toNat := by simpa [SendSide.inWindow] using window
  have below : (n - d.oldest).toNat < d.replayList.length := by
    refine Nat.lt_of_le_of_ne (h.window ▸ window) fun e => sent ?_
    rw [← h.window] at e
    bv_omega
  by_cases removed : (n - d.oldest).toNat = 0
  · rw [acknowledge_of_none removed]
    exact List.length_pos_iff.mp (Nat.zero_lt_of_lt below)
  · rw [acknowledge_of_some removed]
    exact fun e => Nat.not_le_of_lt below (List.drop_eq_nil_iff.mp e)

/-! ## The changes of the link controller -/

/-- Where something is owed to the far end, or counted for it, a session stands (R120, R121). -/
theorem Link.Sound.session_of_recv {l : Link} (h : l.Sound) (used : l.recv ≠ {}) :
    l.state = .discovery ∨ l.state = .up := by
  by_contra other
  obtain ⟨discovery, up⟩ := not_or.mp other
  exact used (h.recv discovery up)

/-- Where a frame waits on the replay list the link is UP (R122). -/
theorem Link.Sound.up_of_frames {l : Link} (h : l.Sound) (frames : l.send.replayList ≠ []) : l.state = .up := by
  by_contra other
  exact frames (h.unsent other)

/-- A new send side: with the link not UP it has no frame. -/
theorem Link.Sound.withSend {l : Link} (h : l.Sound) {d : SendSide} (send : d.Sound)
    (unsent : l.state ≠ .up → d.replayList = []) : Link.Sound { l with send := d } := { h with send, unsent }

/-- The condition does not speak of the link's counters (R132). -/
theorem Link.Sound.withCounts {l : Link} (h : l.Sound) (rxErrors replayCount : Nat) :
    Link.Sound { l with rxErrors, replayCount } := { h with }

/-- A new receive side, in a session. -/
theorem Link.Sound.withRecv {l : Link} (h : l.Sound) (session : l.state = .discovery ∨ l.state = .up)
    (v : ReceiveSide) : Link.Sound { l with recv := v } :=
  { h with recv := fun discovery up => absurd session (not_or.mpr ⟨discovery, up⟩) }

/-- A frame goes out in TRAINING, DISCOVERY and UP alone (R56). -/
theorem Link.Sound.transmit {l : Link} (h : l.Sound) (live : ¬ (l.state = .down ∨ l.state = .faulted))
    (bytes : List Byte) : Link.Sound { l with transmitter := some bytes } :=
  { h with idle := fun dead => absurd dead live }

theorem Link.Sound.endTransmission {l : Link} (h : l.Sound) : Link.Sound { l with transmitter := none } :=
  { h with idle := fun _ => rfl }

/-- The entry to TRAINING from DOWN or FAULTED (R113, R114). -/
theorem Link.Sound.enterTraining {l : Link} (h : l.Sound) (dead : l.state = .down ∨ l.state = .faulted) :
    Link.Sound { l with
      state := .training, epoch := l.epoch + 1, send := {}, recv := {}, attempts := 0, trainDue := true
      afterLoss := false, restartTimer := none } where
  send := sendSideSound_start
  unsent _ := rfl
  training _ := rfl
  discovery := by
    rw [h.discovery]
    obtain e | e := dead <;> simp [e]
  restart := by simp
  recv _ _ := rfl
  idle := by simp
  faulted := by simp
  loss := by simp

/-- The end of training, in TRAINING (R116). -/
theorem Link.Sound.enterDiscovery {l : Link} (h : l.Sound) (training : l.state = .training) :
    Link.Sound { l with
      state := .discovery, trainingInterval := none, trainDue := false, discoveryTimer := some Config.discoveryTimeout } where
  send := h.send
  unsent _ := h.unsent (by simp [training])
  training := by simp
  discovery := by simp
  restart := by
    rw [h.restart]
    simp [training]
  recv := by simp
  idle := by simp
  faulted := by simp
  loss lost := by simpa [training] using h.loss lost

/-- The end of discovery, in DISCOVERY (R91, R116). -/
theorem Link.Sound.enterUp {l : Link} (h : l.Sound) (discovery : l.state = .discovery) :
    Link.Sound { l with state := .up, discoveryTimer := none } where
  send := h.send
  unsent := by simp
  training due := by simpa [discovery] using h.training due
  discovery := by simp
  restart := by
    rw [h.restart]
    simp [discovery]
  recv := by simp
  idle := by simp
  faulted := by simp
  loss lost := by simpa [discovery] using h.loss lost

theorem Link.Sound.not_training {l : Link} (h : l.Sound) (other : l.state ≠ .training) :
    l.trainDue = false ∧ l.trainingInterval = none := by
  simpa using fun due => other (h.training due)

theorem Link.Sound.not_faulted {l : Link} (h : l.Sound) (other : l.state ≠ .faulted) : l.restartTimer = none := by
  simpa using fun running => other (h.restart.mp running).1

/-- DOWN without a session to lose: from TRAINING at its limit or by LINK_STOP, and from FAULTED by LINK_STOP, no timer of
the two running on (R115, R131). -/
theorem Link.Sound.enterDown {l : Link} (h : l.Sound) (discovery : l.state ≠ .discovery) (up : l.state ≠ .up)
    {due : Bool} {interval restart : Timer} (due_clear : due = false) (interval_stopped : interval = none)
    (restart_stopped : restart = none) (loss : LossReason) :
    Link.Sound { l with
      state := .down, transmitter := none, trainDue := due, trainingInterval := interval, restartTimer := restart
      lastLoss := loss } where
  send := h.send
  unsent _ := h.unsent up
  training := by simp [due_clear, interval_stopped]
  discovery := by
    rw [h.discovery]
    simp [discovery]
  restart := by simp [restart_stopped]
  recv _ _ := h.recv discovery up
  idle _ := rfl
  faulted := by simp
  loss _ := .inl rfl

/-- Link loss in a session (R129, R130). -/
theorem Link.Sound.lose {l : Link} (h : l.Sound) (session : l.state = .discovery ∨ l.state = .up) (reason : LossReason) :
    Link.Sound { l with
      state := lossTarget reason, lastLoss := reason, afterLoss := true, send := {}, recv := {}
      discoveryTimer := none, transmitter := none
      restartTimer := restartOnEntry (lossTarget reason) l.autoRestart } where
  send := sendSideSound_start
  unsent _ := rfl
  training due := by
    have training := h.training due
    obtain e | e := session <;> cases training.symm.trans e
  discovery := by
    unfold lossTarget
    split <;> simp
  restart := by
    unfold restartOnEntry
    split
    · next entry => simp [entry]
    · next other => simp [other]
  recv _ _ := rfl
  idle _ := rfl
  faulted _ := rfl
  loss _ := by
    unfold lossTarget
    split <;> simp

/-- A write of LINK_CTRL: the restart timer runs in FAULTED exactly while auto-restart is enabled (R130, R133). -/
theorem Link.Sound.writeLinkCtrl {l : Link} (h : l.Sound) (enabled : Bool) (limit : Byte) :
    Link.Sound { l with
      autoRestart := enabled
      trainingLimit := limit
      restartTimer :=
        if enabled = false then none
        else if l.autoRestart = false ∧ l.state = .faulted then some Config.restartDelay
        else l.restartTimer } :=
  { h with
    restart := by
      cases enabled with
      | false => simp
      | true =>
        by_cases starts : l.autoRestart = false ∧ l.state = .faulted
        · simp [starts]
        · simpa [starts, h.restart] using fun faulted => Bool.eq_true_of_not_eq_false fun auto => starts ⟨auto, faulted⟩ }

theorem linkSound_start (epoch : Epoch) (autoRestart : Bool) (trainingLimit : Byte) (replayTimeout : Nat) :
    Link.Sound { epoch, autoRestart, trainingLimit, replayTimeout } where
  send := sendSideSound_start
  unsent _ := rfl
  training := by simp
  discovery := by simp
  restart := by simp
  recv _ _ := rfl
  idle _ := rfl
  faulted := by simp
  loss := by simp

end Sys2Proof.Machine
end

section
/-! SUPPORT. The operations that leave the link controller as it is, and that every other one keeps it sound (O58). -/

namespace Sys2Proof.Machine

/-- A change of the state that keeps a sound link controller sound. -/
def KeepsLink (s s' : State) : Prop := s.link.Sound → s'.link.Sound

theorem KeepsLink.of_eq {s s' : State} (h : s'.link = s.link) : KeepsLink s s' := fun sound => h ▸ sound

theorem KeepsLink.trans {s s' s'' : State} (h : KeepsLink s s') (h' : KeepsLink s' s'') : KeepsLink s s'' := h' ∘ h

theorem keepsLink_ite {p : Prop} [Decidable p] {s a b : State} (ha : KeepsLink s a) (hb : KeepsLink s b) :
    KeepsLink s (if p then a else b) := by
  split
  · exact ha
  · exact hb

/-! ## The operations beside the link -/

theorem Fate.link_depart (f : Fate) (t : Tag) (s : State) : (f.depart t s).link = s.link := by
  rw [Fate.depart, link_releaseMarks, f.link_act]

@[simp] theorem link_completeAndRelease (t : Tag) (e : Ending) (s : State) : (completeAndRelease t e s).link = s.link :=
  Fate.link_depart (.complete e) t s

@[simp] theorem link_freeAndRelease (t : Tag) (s : State) : (freeAndRelease t s).link = s.link := Fate.link_depart .free t s

@[simp] theorem link_orphanAndRelease (t : Tag) (s : State) : (orphanAndRelease t s).link = s.link :=
  Fate.link_depart .orphan t s

@[simp] theorem link_protocolError (s : State) : (protocolError s).link = s.link := rfl

@[simp] theorem link_reportPosted (t : Tag) (reason : PostedReason) (s : State) : (reportPosted t reason s).link = s.link :=
  rfl

@[simp] theorem link_returnCredit (u : UnitNo) (s : State) : (returnCredit u s).link = s.link := rfl

@[simp] theorem link_placeData (t : Tag) (offset count : Nat) (words : List Word) (s : State) :
    (placeData t offset count words s).link = s.link := by
  unfold placeData
  split <;> rfl

@[simp] theorem link_placeReply (t : Tag) (b : ReplyBody) (s : State) : (placeReply t b s).link = s.link := by
  cases b with
  | data final short offset count words => exact link_placeData t offset count words s
  | done => rfl
  | refuse reason => rfl

@[simp] theorem link_postedReport (t : Tag) (b : ReplyBody) (s : State) : (postedReport t b s).link = s.link := by
  unfold postedReport
  split
  · split <;> rfl
  · rfl
  · rfl

theorem link_acceptReply (t : Tag) (b : ReplyBody) (s : State) : (acceptReply t b s).link = s.link := by
  unfold acceptReply
  split
  · simp [acceptPosted]
  · split
    · simp [acceptSegment]
    · simp [acceptFinal]

theorem link_violateReply (t : Tag) (b : ReplyBody) (s : State) : (violateReply t b s).link = s.link := by
  rw [violateReply, link_protocolError]
  split
  · unfold violatePosted
    split <;> simp
  · rw [violateNonPosted, link_completeAndRelease]
    split <;> rfl

theorem link_lateFinal (t : Tag) (s : State) : (lateFinal t s).link = s.link := by
  unfold lateFinal
  split <;> rfl

theorem link_takeReply (t : Tag) (u : UnitNo) (b : Option ReplyBody) (s : State) : (takeReply t u b s).link = s.link := by
  unfold takeReply takeMatched
  split
  · rfl
  split
  · split
    · split
      · exact link_lateFinal t s
      · rfl
    · split
      · exact link_acceptReply t _ s
      · exact link_violateReply t _ s
  · rfl

theorem link_expireReplyTimerOf (t : Tag) (s : State) : (expireReplyTimerOf t s).link = s.link := by
  unfold expireReplyTimerOf
  split <;> rfl

theorem link_expireCancelTimerOf (t : Tag) (s : State) : (expireCancelTimerOf t s).link = s.link := by
  unfold expireCancelTimerOf
  split
  · split <;> simp
  · rfl

theorem link_takeUnitReport (u : UnitNo) (spaces : BitVec 4) (classCode : Halfword) (limit maxBlock : Byte) (s : State) :
    (takeUnitReport u spaces classCode limit maxBlock s).link = s.link := by
  unfold takeUnitReport
  split <;> rfl

theorem link_takeUnitGone (u : UnitNo) (s : State) : (takeUnitGone u s).link = s.link := by
  unfold takeUnitGone
  split
  · rw [← link_settleUnitTags u s]
    generalize settleUnitTags u s = w
    rfl
  · rfl

theorem link_takeAttention (u : UnitNo) (number : Byte) (cause : Halfword) (s : State) :
    (takeAttention u number cause s).link = s.link := by
  unfold takeAttention
  split
  · split <;> rfl
  · rfl

theorem link_holdoffExpiry (s : State) : (holdoffExpiry s).link = s.link := by
  unfold holdoffExpiry
  split <;> rfl

/-! ## The host's commands and accesses beside the link -/

theorem link_cmdSubmit (operand : Byte) (s : State) : (cmdSubmit operand s).link = s.link := by
  unfold cmdSubmit
  split
  · next k t _ _ _ =>
    rw [acceptSubmit_eq]
    exact placeTag_link t k (fillTag t k s)
  · rfl

theorem link_onTag {command : Tag → State → State} {s : State} (h : ∀ t, (command t s).link = s.link) (operand : Byte) :
    (onTag operand command s).link = s.link := by
  unfold onTag
  split
  · rfl
  · exact h _

theorem link_cancelTag (t : Tag) (s : State) : (cancelTag t s).link = s.link := by
  unfold cancelTag
  split
  · rfl
  cases (s.tag t).state
  case queued | waiting => simp
  all_goals rfl

theorem link_cmdPopResult (operand : Byte) (s : State) : (cmdPopResult operand s).link = s.link := by
  unfold cmdPopResult
  split
  · rfl
  · simp [settlePop_eq]

theorem link_releaseTag (t : Tag) (s : State) : (releaseTag t s).link = s.link := by
  unfold releaseTag
  split
  · split
    · simp only [setResult_link, dropSelection_eq]
      split <;> rfl
    · rfl
  · rfl

theorem link_selectTag (t : Tag) (s : State) : (selectTag t s).link = s.link := by
  unfold selectTag
  split <;> rfl

theorem link_cmdPopAttention (operand : Byte) (s : State) : (cmdPopAttention operand s).link = s.link := by
  unfold cmdPopAttention oweAttentionAck
  split
  · rfl
  · rw [setResult_link]
    split <;> rfl

theorem link_writeStgDataL (value : Halfword) (s : State) : (writeStgDataL value s).link = s.link := by
  unfold writeStgDataL
  split <;> rfl

theorem link_readRdDataH (s : State) : (readRdDataH s).link = s.link := by
  unfold readRdDataH
  split <;> rfl

theorem link_readRdDataL (s : State) : (readRdDataL s).link = s.link := by
  unfold readRdDataL
  split <;> rfl

theorem link_writeUnitMask (value : Halfword) (s : State) : (writeUnitMask value s).link = s.link := by
  unfold writeUnitMask releaseHeld
  rw [updUnit_link]
  split
  · split <;> rfl
  · rfl

/-! ## The link -/

theorem keepsLink_enterTraining {s : State} (dead : s.link.state = .down ∨ s.link.state = .faulted) :
    KeepsLink s (enterTraining s) := fun h => h.enterTraining dead

theorem keepsLink_linkLoss {s : State} (session : InSession s) (reason : LossReason) : KeepsLink s (linkLoss reason s) := by
  intro h
  rw [link_linkLoss]
  exact h.lose session reason

theorem keepsLink_loseEstablished (reason : LossReason) (s : State) : KeepsLink s (loseEstablished reason s) := by
  by_cases session : InSession s
  · rw [loseEstablished_of_session session]
    exact keepsLink_linkLoss session reason
  · rw [loseEstablished_of_not session]
    exact .of_eq rfl

/-- A demand for a pass, with a frame to send, whatever became of the replay timer before it (R125, R126). -/
theorem linkSound_demandPass {s : State} {timer : Timer}
    (h : Link.Sound { s.link with send := { s.link.send with replayTimer := timer } })
    (frames : s.link.send.replayList ≠ []) : (demandPass s).link.Sound := by
  have up : s.link.state = .up := h.up_of_frames frames
  obtain below | limit := Nat.lt_or_ge s.link.send.episode 4
  · rw [demandPass_of_lt below]
    exact (h.withSend (h.send.demand frames below _) h.unsent).withCounts _ _
  · rw [demandPass_of_le limit, loseEstablished_of_session (.inr up), link_linkLoss]
    exact h.lose (.inr up) _

theorem keepsLink_takeAck (n : SeqNo) (s : State) : KeepsLink s (takeAck n s) := by
  unfold takeAck
  split
  · exact fun h => h.withSend (h.send.acknowledge _ n) fun other => acknowledge_unsent (h.unsent other) _ n
  · exact .of_eq rfl

theorem keepsLink_takeNak (n : SeqNo) (s : State) : KeepsLink s (takeNak n s) := by
  unfold takeNak
  split
  case isFalse => exact .of_eq rfl
  next window =>
  intro h
  have acknowledged := h.withSend (h.send.acknowledge (replaySetting s) n) fun other =>
    acknowledge_unsent (h.unsent other) _ n
  simp only
  split
  · exact acknowledged
  next sent =>
  have frames := h.send.acknowledge_frames window sent (replaySetting s)
  split
  · exact acknowledged.withSend (acknowledged.send.passFromHead frames) acknowledged.unsent
  · exact linkSound_demandPass acknowledged frames

theorem keepsLink_endTrainingInterval (s : State) : KeepsLink s (endTrainingInterval s) := by
  unfold endTrainingInterval
  split
  · exact .of_eq rfl
  next running =>
  intro h
  have training : s.link.state = .training := h.training (.inr (by simp [running]))
  simp only [if_pos training]
  split
  · exact { h with training := fun _ => training }
  · exact h.enterDown (by simp [training]) (by simp [training]) rfl rfl (h.not_faulted (by simp [training])) _

theorem keepsLink_expireDiscoveryTimer (s : State) : KeepsLink s (expireDiscoveryTimer s) := by
  unfold expireDiscoveryTimer
  split
  · exact .of_eq rfl
  next running =>
  intro h
  have discovery : s.link.state = .discovery := h.discovery.mp (by simp [running])
  simp only [if_pos discovery, link_linkLoss]
  exact h.lose (.inl discovery) _

theorem keepsLink_expireReplayTimer (s : State) : KeepsLink s (expireReplayTimer s) := by
  unfold expireReplayTimer
  split
  · exact .of_eq rfl
  next running =>
  intro h
  exact linkSound_demandPass (s := updSend _ s) h (h.send.timer.mp (by simp [running]))

theorem keepsLink_expireAckDelay (s : State) : KeepsLink s (expireAckDelay s) := by
  unfold expireAckDelay
  split
  · exact .of_eq rfl
  next running =>
  exact fun h => h.withRecv (h.session_of_recv fun e => by simp [e] at running) _

theorem keepsLink_expireRestartTimer (s : State) : KeepsLink s (expireRestartTimer s) := by
  unfold expireRestartTimer
  split
  · exact .of_eq rfl
  next running =>
  intro h
  have faulted : s.link.state = .faulted := (h.restart.mp (by simp [running])).1
  simp only [if_pos faulted]
  exact h.enterTraining (.inr faulted)

theorem keepsLink_cmdLinkStart (operand : Byte) (s : State) : KeepsLink s (cmdLinkStart operand s) := by
  unfold cmdLinkStart
  split
  case h_1 down => exact keepsLink_enterTraining (.inl down)
  case h_2 faulted => exact keepsLink_enterTraining (.inr faulted)
  all_goals exact .of_eq rfl

theorem keepsLink_cmdLinkStop (operand : Byte) (s : State) : KeepsLink s (cmdLinkStop operand s) := by
  unfold cmdLinkStop
  split
  case h_1 discovery => exact (keepsLink_linkLoss (.inl discovery) _).trans (.of_eq (setResult_link _ _))
  case h_2 up => exact (keepsLink_linkLoss (.inr up) _).trans (.of_eq (setResult_link _ _))
  case h_3 training =>
    exact fun h => h.enterDown (by simp [training]) (by simp [training]) rfl rfl (h.not_faulted (by simp [training])) _
  case h_4 faulted =>
    intro h
    obtain ⟨due, interval⟩ := h.not_training (by simp [faulted])
    exact h.enterDown (by simp [faulted]) (by simp [faulted]) due interval rfl _
  case h_5 => exact .of_eq rfl

theorem keepsLink_writeLinkCtrl (value : Halfword) (s : State) : KeepsLink s (writeLinkCtrl value s) :=
  fun h => h.writeLinkCtrl _ _

theorem keepsLink_writeLinkTiming (value : Halfword) (s : State) : KeepsLink s (writeLinkTiming value s) :=
  fun h => { h with }

theorem keepsLink_clearLinkCounter (counter : LinkCounter) (s : State) : KeepsLink s (clearLinkCounter counter s) := by
  cases counter with
  | rxErrors => exact fun h => h.withCounts 0 _
  | replayCount => exact fun h => h.withCounts _ 0

/-! ## The transmitter -/

theorem keepsLink_takeItem {item : TxItem} {effect : State → State} {s : State}
    (h : applies s item = true → KeepsLink s (effect s)) : KeepsLink s (takeItem item effect s) := by
  unfold takeItem
  split
  · next choice => exact h (applies_of_choice choice)
  · exact .of_eq rfl

theorem keepsLink_takeNakItem {s : State} (owed : applies s .nak = true) : KeepsLink s (takeNakItem s) := by
  intro h
  have owed := (applies_nak_iff s).mp owed
  have session := h.session_of_recv fun e => by simp [e] at owed
  exact (h.withRecv session _).transmit (by obtain e | e := session <;> simp [e]) _

theorem keepsLink_takeAckItem {s : State} (owed : applies s .ack = true) : KeepsLink s (takeAckItem s) := by
  intro h
  obtain ⟨-, session⟩ := (applies_ack_iff s).mp owed
  exact (h.withRecv session _).transmit (by obtain e | e := session <;> simp [e]) _

theorem keepsLink_takeTrainItem {s : State} (due : applies s .train = true) : KeepsLink s (takeTrainItem s) := by
  intro h
  obtain ⟨training, -⟩ := (applies_train_iff s).mp due
  have sent : Link.Sound { s.link with
      trainDue := false, attempts := riseTo 255 s.link.attempts, trainingInterval := some Config.trainingInterval } :=
    { h with training := fun _ => training }
  exact sent.transmit (by simp [training]) _

theorem keepsLink_takeReplayItem (s : State) : KeepsLink s (takeReplayItem s) := by
  unfold takeReplayItem
  split
  · next i f pass _ =>
    intro h
    have frames : s.link.send.replayList ≠ [] := List.length_pos_iff.mp (Nat.zero_lt_of_lt (h.send.pass i pass))
    have up := h.up_of_frames frames
    exact (h.withSend (h.send.advancePass i) h.unsent).transmit (by simp [up]) _
  · exact .of_eq rfl

/-- A new message frame is sent where it is admitted (R58). -/
theorem keepsLink_sendMessage {s : State} (h : admitted s = true) (body : List Word) : KeepsLink s (sendMessage body s) := by
  obtain ⟨up, room, -⟩ := (admitted_iff s).mp h
  exact fun h => (h.withSend (h.send.append room _ _) fun other => absurd up other).transmit (by simp [up]) _

theorem keepsLink_takeAttentionAckItem {s : State} (due : applies s .attentionAck = true) :
    KeepsLink s (takeAttentionAckItem s) := by
  obtain ⟨admits, -⟩ := (applies_attentionAck_iff s).mp due
  unfold takeAttentionAckItem
  split
  · exact keepsLink_sendMessage (s := updUnit _ _ s) admits _
  · exact .of_eq rfl

theorem keepsLink_takeCancelItem {s : State} (due : applies s .cancel = true) : KeepsLink s (takeCancelItem s) := by
  obtain ⟨admits, -⟩ := (applies_cancel_iff s).mp due
  unfold takeCancelItem
  split
  · exact .of_eq rfl
  · next t rest _ => exact keepsLink_sendMessage (s := sendCancel t rest s) admits _

theorem keepsLink_takeRequestItem {s : State} (due : applies s .request = true) : KeepsLink s (takeRequestItem s) := by
  obtain ⟨admits, -⟩ := (applies_request_iff s).mp due
  unfold takeRequestItem
  split
  · exact .of_eq rfl
  · next t _ => exact keepsLink_sendMessage (s := sendRequest t s) admits _

/-! ## Received frames -/

theorem keepsLink_takeReportEnd (s : State) : KeepsLink s (takeReportEnd s) := by
  unfold takeReportEnd
  split
  · next discovery => exact fun h => h.enterUp discovery
  · exact .of_eq rfl

theorem keepsLink_deliver (m : Inbound) (s : State) : KeepsLink s (deliver m s) := by
  cases m with
  | replyData t u final short offset count words => exact .of_eq (link_takeReply t u _ s)
  | replyDone t u => exact .of_eq (link_takeReply t u _ s)
  | replyRefuse t u reason => exact .of_eq (link_takeReply t u _ s)
  | unitReport u spaces classCode limit maxBlock => exact .of_eq (link_takeUnitReport u spaces classCode limit maxBlock s)
  | reportEnd => exact keepsLink_takeReportEnd s
  | unitGone u => exact .of_eq (link_takeUnitGone u s)
  | attention u number cause => exact .of_eq (link_takeAttention u number cause s)
  | undefined => exact .of_eq rfl

theorem keepsLink_updRecv {s : State} (session : InSession s) (f : ReceiveSide → ReceiveSide) :
    KeepsLink s (updRecv f s) := fun h => h.withRecv session _

theorem keepsLink_countRxError (s : State) : KeepsLink s (countRxError s) := fun h => h.withCounts _ _

/-- A frame that is counted as an error, and for which a NAK is asked, in a session (R118, R121). -/
theorem keepsLink_oweNak {s : State} (session : InSession s) :
    KeepsLink s (updRecv ReceiveSide.oweNak (countRxError s)) :=
  (keepsLink_countRxError s).trans (keepsLink_updRecv (s := countRxError s) session _)

theorem keepsLink_sequenceMessage {s : State} (session : InSession s) (seq : SeqNo) (m : Inbound) :
    KeepsLink s (sequenceMessage seq m s) := by
  unfold sequenceMessage
  refine keepsLink_ite ?_ (keepsLink_ite (keepsLink_oweNak session) (keepsLink_updRecv session _))
  exact (keepsLink_updRecv session ReceiveSide.delivered).trans (keepsLink_deliver m _)

/-- A frame with an epoch keeps the link sound where what it does in TRAINING and in a session does. -/
theorem keepsLink_receiveInEpoch {epoch : Epoch} {inTraining inSession : State → State} {s : State}
    (ht : s.link.state = .training → KeepsLink s (inTraining s)) (hs : InSession s → KeepsLink s (inSession s)) :
    KeepsLink s (receiveInEpoch epoch inTraining inSession s) := by
  obtain ⟨-, h⟩ | ⟨-, -, h⟩ | ⟨training, -, h⟩ | ⟨session, -, h⟩ := receiveInEpoch_cases epoch inTraining inSession s <;>
    rw [h]
  · exact .of_eq rfl
  · exact keepsLink_countRxError s
  · exact ht training
  · exact hs session

theorem keepsLink_receiveMessage (h : MsgHeader) (m : Inbound) (s : State) : KeepsLink s (receiveMessage h m s) := by
  unfold receiveMessage discardMessage
  split
  case h_1 | h_2 => exact keepsLink_ite (.of_eq rfl) (.of_eq rfl)
  all_goals exact keepsLink_receiveInEpoch (fun _ => .of_eq rfl) fun session => keepsLink_sequenceMessage session h.seq m

theorem keepsLink_receiveTrain (s : State) : KeepsLink s (receiveTrain s) := by
  unfold receiveTrain
  split
  case h_1 discovery => exact keepsLink_linkLoss (.inl discovery) _
  case h_2 up => exact keepsLink_linkLoss (.inr up) _
  case h_3 down => exact keepsLink_ite (keepsLink_enterTraining (.inl down)) (.of_eq rfl)
  case h_4 faulted => exact keepsLink_ite (keepsLink_enterTraining (.inr faulted)) (.of_eq rfl)
  case h_5 => exact .of_eq rfl

theorem keepsLink_receiveTrainAck (epoch : Epoch) (s : State) : KeepsLink s (receiveTrainAck epoch s) :=
  keepsLink_receiveInEpoch (fun training h => h.enterDiscovery training) fun _ => .of_eq rfl

theorem keepsLink_receiveAck (epoch : Epoch) (n : SeqNo) (s : State) : KeepsLink s (receiveAck epoch n s) :=
  keepsLink_receiveInEpoch (fun _ => .of_eq rfl) fun _ => keepsLink_takeAck n s

theorem keepsLink_receiveNak (epoch : Epoch) (n : SeqNo) (s : State) : KeepsLink s (receiveNak epoch n s) :=
  keepsLink_receiveInEpoch (fun _ => .of_eq rfl) fun _ => keepsLink_takeNak n s

theorem keepsLink_receiveBroken (s : State) : KeepsLink s (receiveBroken s) := by
  unfold receiveBroken
  split
  case h_1 | h_2 => exact .of_eq rfl
  case h_3 => exact keepsLink_countRxError s
  case h_4 discovery => exact keepsLink_oweNak (.inl discovery)
  case h_5 up => exact keepsLink_oweNak (.inr up)

theorem keepsLink_receiveRaw (f : RawFrame) (s : State) : KeepsLink s (receiveRaw f s) := by
  unfold receiveRaw
  split
  · exact keepsLink_receiveBroken s
  · next frame _ =>
    cases frame with
    | train e => exact keepsLink_receiveTrain s
    | trainAck e => exact keepsLink_receiveTrainAck e s
    | ack e n => exact keepsLink_receiveAck e n s
    | nak e n => exact keepsLink_receiveNak e n s
    | message h body => exact keepsLink_receiveMessage h _ s

/-! ## Every command -/

theorem keepsLink_cmdSoftReset (operand : Byte) (s : State) : KeepsLink s (cmdSoftReset operand s) :=
  fun _ => linkSound_start _ _ _ _

theorem keepsLink_issueCommand (code operand : Byte) (s : State) : KeepsLink s (issueCommand code operand s) :=
  keepsLink_ite (.of_eq (link_cmdSubmit operand s)) <|
  keepsLink_ite (.of_eq (link_onTag (fun t => link_cancelTag t s) operand)) <|
  keepsLink_ite (.of_eq (link_cmdPopResult operand s)) <|
  keepsLink_ite (.of_eq (link_onTag (fun t => link_releaseTag t s) operand)) <|
  keepsLink_ite (.of_eq (link_onTag (fun t => link_selectTag t s) operand)) <|
  keepsLink_ite (.of_eq (link_cmdPopAttention operand s)) <|
  keepsLink_ite (.of_eq rfl) <| keepsLink_ite (.of_eq rfl) <|
  keepsLink_ite (keepsLink_cmdLinkStart operand s) <| keepsLink_ite (keepsLink_cmdLinkStop operand s) <|
  keepsLink_ite (keepsLink_cmdSoftReset operand s) <| .of_eq rfl

theorem keepsLink_writeRegister (r : Reg) (value : Halfword) (s : State) : KeepsLink s (writeRegister r value s) := by
  cases r
  case cmd => exact keepsLink_issueCommand _ _ s
  case stgDataL => exact .of_eq (link_writeStgDataL value s)
  case linkCtrl => exact keepsLink_writeLinkCtrl value s
  case linkTiming => exact keepsLink_writeLinkTiming value s
  case rxErrors => exact keepsLink_clearLinkCounter .rxErrors s
  case replayCount => exact keepsLink_clearLinkCounter .replayCount s
  case unitMask => exact .of_eq (link_writeUnitMask value s)
  all_goals exact .of_eq rfl

/-- An event keeps the link sound where its effect does: its appends touch the event unit alone (R154). -/
theorem takeEvent_keepsLink {effect : State → State} {s t : State} (h : takeEvent effect s = .next t)
    (he : KeepsLink s (effect s)) : KeepsLink s t := by
  obtain ⟨-, rfl⟩ | ⟨-, rfl⟩ := takeEvent_cases h
  · exact .of_eq rfl
  · exact he.trans (.of_eq rfl)

theorem takeRead_keepsLink {effect : State → State} {s t : State} (h : takeRead effect s = .next t)
    (he : KeepsLink s (effect s)) : KeepsLink s t := by
  cases hr : s.resetAsserted with
  | true =>
    rw [takeRead_of_asserted hr] at h
    cases h
    exact .of_eq rfl
  | false =>
    rw [takeRead_of_released hr] at h
    exact takeEvent_keepsLink h he

/-- Every command keeps a sound link controller sound. -/
theorem exec_keepsLink {c : Instr} {s t : State} (h : exec c s = .next t) : KeepsLink s t := by
  cases c with
  | submit operand => exact takeEvent_keepsLink h (.of_eq (link_cmdSubmit operand s))
  | cancel operand => exact takeEvent_keepsLink h (.of_eq (link_onTag (fun t => link_cancelTag t s) operand))
  | popResult operand => exact takeEvent_keepsLink h (.of_eq (link_cmdPopResult operand s))
  | release operand => exact takeEvent_keepsLink h (.of_eq (link_onTag (fun t => link_releaseTag t s) operand))
  | select operand => exact takeEvent_keepsLink h (.of_eq (link_onTag (fun t => link_selectTag t s) operand))
  | popAttention operand => exact takeEvent_keepsLink h (.of_eq (link_cmdPopAttention operand s))
  | clearStaging | clearPosted | stgDataHWrite | eventsWrite | eventEnWrite | resultCoalesceWrite | protoErrorsWrite =>
    exact takeEvent_keepsLink h (.of_eq rfl)
  | linkStart operand => exact takeEvent_keepsLink h (keepsLink_cmdLinkStart operand s)
  | linkStop operand => exact takeEvent_keepsLink h (keepsLink_cmdLinkStop operand s)
  | softReset operand => exact takeEvent_keepsLink h (keepsLink_cmdSoftReset operand s)
  | badCode code operand => exact takeEvent_keepsLink h (keepsLink_issueCommand code operand s)
  | stgDataLWrite value => exact takeEvent_keepsLink h (.of_eq (link_writeStgDataL value s))
  | rdDataHRead => exact takeRead_keepsLink h (.of_eq (link_readRdDataH s))
  | rdDataLRead => exact takeRead_keepsLink h (.of_eq (link_readRdDataL s))
  | unitMaskWrite value => exact takeEvent_keepsLink h (.of_eq (link_writeUnitMask value s))
  | linkCtrlWrite value => exact takeEvent_keepsLink h (keepsLink_writeLinkCtrl value s)
  | linkCounterWrite counter value => exact takeEvent_keepsLink h (keepsLink_clearLinkCounter counter s)
  | unusedOffsetAccess place access =>
    cases access with
    | read => exact takeRead_keepsLink h (.of_eq rfl)
    | write v => exact takeEvent_keepsLink h (.of_eq rfl)
  | registerWrite register value => exact takeEvent_keepsLink h (keepsLink_writeRegister register value s)
  | resetN asserted =>
    cases asserted with
    | true =>
      cases h
      exact fun _ => linkSound_start _ _ _ _
    | false =>
      cases h
      exact .of_eq rfl
  | lossOfSignal => exact takeEvent_keepsLink h (keepsLink_loseEstablished .signalLost s)
  | train epoch => exact takeEvent_keepsLink h (keepsLink_receiveTrain s)
  | trainAck epoch => exact takeEvent_keepsLink h (keepsLink_receiveTrainAck epoch s)
  | ack epoch number => exact takeEvent_keepsLink h (keepsLink_receiveAck epoch number s)
  | nak epoch number => exact takeEvent_keepsLink h (keepsLink_receiveNak epoch number s)
  | frameCheckFailure frame => exact takeEvent_keepsLink h (keepsLink_receiveRaw frame s)
  | messageOutOfSequence header | replyData header | replyDone header | replyRefuse header | unitReport header
  | reportEnd header | unitGone header | attention header | undefinedMessage header =>
    exact takeEvent_keepsLink h (keepsLink_receiveMessage header _ s)
  | replyTimerExpiry tag => exact takeEvent_keepsLink h (.of_eq (link_expireReplyTimerOf tag s))
  | cancelTimerExpiry tag => exact takeEvent_keepsLink h (.of_eq (link_expireCancelTimerOf tag s))
  | trainingIntervalEnd => exact takeEvent_keepsLink h (keepsLink_endTrainingInterval s)
  | discoveryTimerExpiry => exact takeEvent_keepsLink h (keepsLink_expireDiscoveryTimer s)
  | replayTimerExpiry => exact takeEvent_keepsLink h (keepsLink_expireReplayTimer s)
  | ackDelayTimerExpiry => exact takeEvent_keepsLink h (keepsLink_expireAckDelay s)
  | restartTimerExpiry => exact takeEvent_keepsLink h (keepsLink_expireRestartTimer s)
  | holdoffTimerExpiry => exact takeEvent_keepsLink h (.of_eq (link_holdoffExpiry s))
  | nakTake => exact takeEvent_keepsLink h (keepsLink_takeItem keepsLink_takeNakItem)
  | ackTake => exact takeEvent_keepsLink h (keepsLink_takeItem keepsLink_takeAckItem)
  | trainTake => exact takeEvent_keepsLink h (keepsLink_takeItem keepsLink_takeTrainItem)
  | replayTake => exact takeEvent_keepsLink h (keepsLink_takeItem fun _ => keepsLink_takeReplayItem s)
  | attentionAckTake => exact takeEvent_keepsLink h (keepsLink_takeItem keepsLink_takeAttentionAckItem)
  | cancelTake => exact takeEvent_keepsLink h (keepsLink_takeItem keepsLink_takeCancelItem)
  | requestTake => exact takeEvent_keepsLink h (keepsLink_takeItem keepsLink_takeRequestItem)
  | transmitEnd => exact takeEvent_keepsLink h fun sound => sound.endTransmission

/-- Settles O58: the condition is one on the link controller alone, which every command keeps. -/
theorem keptLinkSound : Obligations.KeptLinkSound :=
  keptByStep_of_exec (fun _ _ => id) fun {_ s t} h sound =>
    (linkSound_iff t).mpr (exec_keepsLink h ((linkSound_iff s).mp sound))

end Sys2Proof.Machine
end


section
/-! SUPPORT. Replies that fail a check, for a tag that is not posted (O38), and the epoch and sequence of every MESSAGE frame
(O33). -/

namespace Sys2Proof.Machine

/-! ## A reply that fails a check (Table 5.2) -/

/-- No kind takes data and is one whose replies bring none. -/
theorem TakesData.not_dataless {k : Kind} (h : TakesData k) : ¬ (k = .write ∨ k = .writeBlock ∨ k = .mark) := by
  obtain rfl | rfl | rfl := h <;> decide

/-- What the checks of a REPLY-DATA ask: data where the kind takes it, at the next place, within the length, and ending it
exactly where the reply is final and not short. -/
theorem checks_of_passesChecks_data {r : TagRecord} {final short : Bool} {offset count : Nat} {words : List Word}
    (passes : passesChecks r (.data final short offset count words) = true) :
    TakesData r.kind ∧ offset = r.wordsReceived ∧ offset + count ≤ r.length
      ∧ if final && !short then offset + count = r.length else offset + count < r.length := by
  simp only [passesChecks, Bool.and_eq_true, decide_eq_true_eq] at passes
  obtain ⟨⟨⟨takes, next⟩, within⟩, ends⟩ := passes
  refine ⟨?_, next, within, ?_⟩
  · cases kind : r.kind <;> simp_all [TakesData]
  · cases final <;> cases short <;> simpa using ends

theorem not_passesChecks_done {r : TagRecord} (kind : TakesData r.kind ∨ r.kind = .mark) :
    ¬ passesChecks r .done = true := by
  obtain (h | h | h) | h := kind <;> simp [passesChecks, h]

/-- A violation for a tag that is not posted: one protocol error is counted, a final reply returns the credit, and the tag
completes PROTOCOL, its final reply still owed where this one was not final (R69). -/
theorem violateReply_of_nonPosted {t : Tag} {u : UnitNo} {b : ReplyBody} {s : State} (posted : (s.tag t).posted = false)
    (unit : (s.tag t).unit = u) :
    violateReply t b s = (Fate.complete ⟨.protocol, none, .unknown, 0, !b.isFinal⟩).depart t
      (if b.isFinal then creditReturned u (protoErrorCounted s) else protoErrorCounted s) := by
  have violate : violateReply t b s = protocolError (violateNonPosted t b.isFinal s) := by
    rw [violateReply, posted, if_neg Bool.false_ne_true]
  rw [violate, violateNonPosted, completeAndRelease_eq, protocolError_depart, unit]
  split <;> rfl

/-- Settles O38: by the checks that fail, of REPLY-DATA and of REPLY-DONE. -/
theorem violationsCompleteProtocol : Obligations.ViolationsCompleteProtocol := by
  intro s h t u final short offset count words inOrder exact answerable posted r violated
  have ⟨released, _⟩ := inOrder
  have ⟨_, unit, _⟩ := answerable
  have counted : ListsExact (protoErrorCounted (delivered s)) := exact.after_delivered.after_protoError
  have violates {b : ReplyBody} (fails : ¬ passesChecks r b = true) : takeReply t u (some b) (delivered s)
      = (Fate.complete ⟨.protocol, none, .unknown, 0, !b.isFinal⟩).depart t
        (if b.isFinal then creditReturned u (protoErrorCounted (delivered s)) else protoErrorCounted (delivered s)) := by
    rw [takeReply_of_answerable (s := delivered s) answerable]
    exact (if_neg fails).trans (violateReply_of_nonPosted (s := delivered s) posted unit)
  refine ⟨fun low high length form violation => ?_, fun kind => ?_⟩
  · have fails : ¬ passesChecks r (.data final short offset.toNat count.toNat words) = true := by
      intro passes
      obtain ⟨takes, next, within, ends⟩ := checks_of_passesChecks_data passes
      have dataless := takes.not_dataless
      obtain h | h | h | h | h | ⟨rfl, h⟩ | ⟨rfl, rfl, h⟩ | ⟨rfl, rfl, h⟩ := violation
      · exact dataless (.inl h)
      · exact dataless (.inr (.inl h))
      · exact dataless (.inr (.inr h))
      · exact h next
      · omega
      · exact absurd (show offset.toNat + count.toNat < r.length from ends) (Nat.not_lt.mpr h)
      · exact h ends
      · exact absurd (show offset.toNat + count.toNat < r.length from ends) (Nat.not_lt.mpr h)
    have run : receiveMessage h (.replyData t u final short offset count words) s
        = takeReply t u (some (.data final short offset.toNat count.toNat words)) (delivered s) := by
      rw [receiveMessage_of_inOrder inOrder, deliver, dataReply_of_wellFormed low high length form]
    cases final with
    | true => exact answers_completes released (counted.after_creditReturned u) rfl (run.trans (violates fails))
    | false => exact answers_completes released counted rfl (run.trans (violates fails))
  · have fails : ¬ passesChecks r .done = true := by
      refine not_passesChecks_done ?_
      obtain h | h | h | h := kind
      · exact .inl (.inl h)
      · exact .inl (.inr (.inl h))
      · exact .inl (.inr (.inr h))
      · exact .inr h
    exact answers_completes released (counted.after_creditReturned u) rfl
      ((receiveMessage_of_inOrder inOrder _).trans (violates fails))

/-! ## MESSAGE frames by epoch and sequence number (R117, R118) -/

/-- Every MESSAGE row is received as a MESSAGE frame of its header, with a message that is a reply where the row carries
one (log entry 7). -/
theorem exec_of_messageHeader {c : Instr} {h : MsgHeader} (header : messageHeader c = some h) :
    ∃ m : Inbound, m.isReply = carriesReply c ∧ ∀ s, exec c s = takeEvent (receiveMessage h m) s := by
  cases c
  case messageOutOfSequence | replyData | replyDone | replyRefuse | unitReport | reportEnd | unitGone | attention
      | undefinedMessage =>
    cases header
    refine ⟨_, ?_, fun _ => rfl⟩
    rfl
  all_goals cases header

/-- Outside DOWN and FAULTED a MESSAGE frame is checked for its epoch, and in a session for its sequence number. -/
theorem receiveMessage_of_alive {s : State} (alive : s.link.state = .training ∨ InSession s) (h : MsgHeader) (m : Inbound) :
    receiveMessage h m s = receiveInEpoch h.epoch id (sequenceMessage h.seq m) s := by
  unfold receiveMessage
  obtain hl | hl | hl := alive <;> simp only [hl]

theorem receiveMessage_of_otherEpoch {s : State} (alive : s.link.state = .training ∨ InSession s) {h : MsgHeader}
    (other : h.epoch ≠ s.link.epoch) (m : Inbound) : receiveMessage h m s = rxErrorCounted s := by
  rw [receiveMessage_of_alive alive, receiveInEpoch]
  obtain hl | hl | hl := alive <;> simp only [hl, if_neg other] <;> rfl

theorem receiveMessage_of_training {s : State} (training : s.link.state = .training) {h : MsgHeader}
    (epoch : h.epoch = s.link.epoch) (m : Inbound) : receiveMessage h m s = s := by
  rw [receiveMessage_of_alive (.inl training), receiveInEpoch]
  simp only [training, if_pos epoch, id]

theorem receiveMessage_of_session {s : State} (session : InSession s) {h : MsgHeader} (epoch : h.epoch = s.link.epoch)
    (m : Inbound) : receiveMessage h m s = sequenceMessage h.seq m s := by
  rw [receiveMessage_of_alive (.inr session), receiveInEpoch]
  obtain hl | hl := session <;> simp only [hl, if_pos epoch]

/-- A frame ahead of the expected number is counted, and a NAK asked for (R118, R121). -/
theorem sequenceMessage_of_ahead {seq : SeqNo} {s : State} (low : 1 ≤ (seq - s.link.recv.expected).toNat)
    (high : (seq - s.link.recv.expected).toNat ≤ 15) (m : Inbound) :
    sequenceMessage seq m s
      = { rxErrorCounted s with link := { (rxErrorCounted s).link with recv := nakAsked s.link.recv } } := by
  simp only [sequenceMessage, if_neg (Nat.ne_of_gt low), if_pos (Nat.lt_succ_of_le high)]
  rfl

/-- A frame behind the expected number is a duplicate, and an ACK becomes owed (R118, R120). -/
theorem sequenceMessage_of_behind {seq : SeqNo} {s : State} (behind : 16 ≤ (seq - s.link.recv.expected).toNat)
    (m : Inbound) :
    sequenceMessage seq m s = { s with link := { s.link with recv := { s.link.recv with ackOwed := true } } } := by
  have ne : (seq - s.link.recv.expected).toNat ≠ 0 := by omega
  simp only [sequenceMessage, if_neg ne, if_neg (Nat.not_lt.mpr behind)]
  rfl

/-- A number at distance 0 from another is that number. -/
theorem seq_eq_of_distance {seq expected : SeqNo} (h : (seq - expected).toNat = 0) : seq = expected := by
  bv_omega

/-- A message's owner leaves the receive side as its delivery left it. -/
theorem recv_deliver (m : Inbound) (s : State) : (deliver m s).link.recv = s.link.recv := by
  have of_link {s' : State} (h : s'.link = s.link) : s'.link.recv = s.link.recv := congrArg Link.recv h
  cases m with
  | replyData t u final short offset count words => exact of_link (link_takeReply t u _ s)
  | replyDone t u => exact of_link (link_takeReply t u _ s)
  | replyRefuse t u reason => exact of_link (link_takeReply t u _ s)
  | unitReport u spaces classCode limit maxBlock => exact of_link (link_takeUnitReport u spaces classCode limit maxBlock s)
  | reportEnd =>
    rw [deliver, takeReportEnd]
    split <;> rfl
  | unitGone u => exact of_link (link_takeUnitGone u s)
  | attention u number cause => exact of_link (link_takeAttention u number cause s)
  | undefined => rfl

/-- Settles O33: by the link state, the frame's epoch, and its distance from the expected number. -/
theorem messageFramesAreSequenced : Obligations.MessageFramesAreSequenced := by
  intro s c h released header d
  obtain ⟨m, reply, run⟩ := exec_of_messageHeader header
  have answer {w : State} (effect : receiveMessage h m s = w) (results : w.results = s.results) : exec c s = .next w :=
    (run s).trans (takeEvent_next released effect (Nat.le_of_eq (congrArg List.length results)))
  refine ⟨fun dead => answer ?_ ?_, fun training epoch => answer (receiveMessage_of_training training epoch m) rfl,
    fun alive other => answer (receiveMessage_of_otherEpoch alive other m) rfl, fun session epoch => ?_⟩
  · rw [receiveMessage_of_down dead, reply]
    simp only [replyAfterLoss, header, Bool.and_eq_true, decide_eq_true_eq, Option.map_some, Option.some.injEq, and_assoc]
  · split <;> rfl
  · have sequenced := receiveMessage_of_session session epoch m
    refine ⟨fun low high => answer (sequenced.trans (sequenceMessage_of_ahead low high m)) rfl,
      fun behind => answer (sequenced.trans (sequenceMessage_of_behind behind m)) rfl, fun inOrder => ?_⟩
    have effect := receiveMessage_of_inOrder ⟨released, session, epoch, seq_eq_of_distance inOrder⟩ m
    refine ⟨_, (run s).trans (takeEvent_of_released released _), ?_⟩
    rw [effect]
    exact recv_deliver m (delivered s)

end Sys2Proof.Machine
end

section
/-! SUPPORT. The messages that their owners discard (O34), the reports that begin and end discovery (O27, O42), a write to
UNIT_MASK (O22), and one step (O1). -/

namespace Sys2Proof.Machine

/-! ## Replies that reach no tag -/

/-- A REPLY-DATA of a wrong count, or short without being final, is ill formed (R64). -/
theorem dataReply_of_illFormed {final short : Bool} {count : Byte} {words : List Word}
    (form : count.toNat = 0 ∨ 16 < count.toNat ∨ words.length ≠ count.toNat ∨ (short = true ∧ final = false))
    (offset : Byte) : dataReply final short offset count words = none := if_pos form

/-- Only 1 to 6 are refusal reasons (R64). -/
theorem refuseReply_of_noReason {reason : Byte} (out : reason.toNat = 0 ∨ 6 < reason.toNat) :
    refuseReply reason = none := by
  unfold refuseReply reasonOfByte
  split
  case h_7 => rfl
  all_goals omega

theorem takeReply_of_illFormed {b : Option ReplyBody} (illFormed : b = none) (t : Tag) (u : UnitNo) (s : State) :
    takeReply t u b s = protoErrorCounted s := by
  rw [illFormed]
  rfl

/-- An unmatched reply is a protocol error, whatever it carries (R64, R66). -/
theorem takeReply_of_unmatched {t : Tag} {u : UnitNo} {s : State} (unmatched : ¬ Matched t u s) (b : Option ReplyBody) :
    takeReply t u b s = protoErrorCounted s := by
  cases b with
  | none => rfl
  | some b => exact if_neg (mt (matched_iff t u s).mp unmatched)

/-! ## Reports and attentions -/

theorem reportAccepted_iff (u : UnitNo) (limit maxBlock : Byte) (s : State) :
    reportAccepted u limit maxBlock s = true ↔ (s.unit u).present = false
      ∧ (1 ≤ limit.toNat ∧ limit.toNat ≤ 8) ∧ 1 ≤ maxBlock.toNat ∧ maxBlock.toNat ≤ 64 := by
  simp [reportAccepted, and_assoc]

/-- An accepted report writes its unit's record and sets UNIT (R90). -/
theorem takeUnitReport_of_accepted {u : UnitNo} {limit maxBlock : Byte} {s : State}
    (accepted : reportAccepted u limit maxBlock s = true) (spaces : BitVec 4) (classCode : Halfword) :
    takeUnitReport u spaces classCode limit maxBlock s
      = raiseUnit (updUnit u (reportedUnit spaces classCode limit maxBlock) s) := if_pos accepted

/-- A refused report is a protocol error (R89). -/
theorem takeUnitReport_of_refused {u : UnitNo} {limit maxBlock : Byte} {s : State}
    (refused : (s.unit u).present = true ∨ limit.toNat = 0 ∨ 8 < limit.toNat ∨ maxBlock.toNat = 0 ∨ 64 < maxBlock.toNat)
    (spaces : BitVec 4) (classCode : Halfword) :
    takeUnitReport u spaces classCode limit maxBlock s = protoErrorCounted s := by
  refine if_neg fun accepted => ?_
  obtain ⟨absent, limits, blocks⟩ := (reportAccepted_iff u limit maxBlock s).mp accepted
  obtain present | out := refused
  · exact Bool.false_ne_true (absent.symm.trans present)
  · omega

/-- REPORT-END in DISCOVERY stops the discovery timer and makes the link UP (R91, R116). -/
theorem takeReportEnd_of_discovery {s : State} (discovery : s.link.state = .discovery) :
    takeReportEnd s = { s with
      link := { s.link with state := .up, discoveryTimer := none }
      events := { s.events with link := true } } := if_pos discovery

/-- REPORT-END outside DISCOVERY is a protocol error (R92). -/
theorem takeReportEnd_of_not_discovery {s : State} (other : s.link.state ≠ .discovery) :
    takeReportEnd s = protoErrorCounted s := if_neg other

/-- UNIT-GONE for an ABSENT unit is a protocol error (R95). -/
theorem takeUnitGone_of_absent {u : UnitNo} {s : State} (absent : (s.unit u).present = false) :
    takeUnitGone u s = protoErrorCounted s := if_neg (ne_true_of_eq_false absent)

/-- An ATTENTION outside UP or for an ABSENT unit is a protocol error (R102). -/
theorem takeAttention_of_refused {u : UnitNo} {s : State} (refused : s.link.state ≠ .up ∨ (s.unit u).present = false)
    (number : Byte) (cause : Halfword) : takeAttention u number cause s = protoErrorCounted s := by
  refine if_neg fun ⟨up, present⟩ => ?_
  obtain other | absent := refused
  · exact other up
  · exact Bool.false_ne_true (absent.symm.trans present)

/-! ## Bodies that are no inbound message -/

/-- The least lengths of Table 9.4, by the code: one word, two words, or no inbound message. -/
theorem inboundLeastWords_cases (code : Byte) :
    (code ∈ [0x20#8, 0x21#8, 0x22#8, 0x31#8, 0x32#8] ∧ inboundLeastWords code = some 1)
      ∨ (code ∈ [0x30#8, 0x33#8] ∧ inboundLeastWords code = some 2)
      ∨ (code ∉ [0x20#8, 0x21#8, 0x22#8, 0x30#8, 0x31#8, 0x32#8, 0x33#8] ∧ inboundLeastWords code = none) := by
  unfold inboundLeastWords
  repeat' split
  all_goals simp [*]

theorem bodyDefined_of_least {w : Word} {n : Nat} (least : inboundLeastWords (byteOfWord w 0) = some n) (rest : List Word) :
    bodyDefined (w :: rest) = decide (n ≤ rest.length + 1) := by
  have code : inboundLeastWords (w.extractLsb' 24 8) = some n := least
  rw [bodyDefined, code]

/-- A body that is no inbound message is read as none (R119, R139). -/
theorem parseMessage_of_notDefined {body : List Word} (undefined : bodyDefined body = false) :
    parseMessage body = .undefined := by
  cases body with
  | nil => rfl
  | cons w rest =>
    obtain ⟨_, least⟩ | ⟨long, least⟩ | ⟨noCode, _⟩ := inboundLeastWords_cases (byteOfWord w 0)
    · simp [bodyDefined_of_least least] at undefined
    · obtain rfl : rest = [] := by simpa [bodyDefined_of_least least] using undefined
      simp only [List.mem_cons, List.not_mem_nil, or_false] at long
      obtain code | code := long <;> simp [parseMessage, code]
    · simp only [List.mem_cons, List.not_mem_nil, or_false, not_or] at noCode
      simp [parseMessage, noCode]

/-! ## Discarded messages -/

/-- Settles O34: by the message, each discarded by its owner. -/
theorem discardedMessagesAreProtocolErrors : Obligations.DiscardedMessagesAreProtocolErrors := by
  intro s c h header inOrder discarded
  have ⟨released, _⟩ := inOrder
  have counted {m : Inbound} (effect : deliver m (delivered s) = protoErrorCounted (delivered s)) :
      takeEvent (receiveMessage h m) s = .next (protoErrorCounted (delivered s)) :=
    takeEvent_next released ((receiveMessage_of_inOrder inOrder m).trans effect) (Nat.le_refl _)
  cases c
  case replyData t u final short offset count words =>
    cases header
    refine counted ?_
    by_cases matched : Matched t u s
    · exact takeReply_of_illFormed
        (dataReply_of_illFormed (by simpa only [DiscardedAsError, matched, not_true, or_false] using discarded) offset) t u _
    · exact takeReply_of_unmatched (s := delivered s) matched _
  case replyDone t u =>
    cases header
    exact counted (takeReply_of_unmatched (s := delivered s) discarded (some .done))
  case replyRefuse t u reason =>
    cases header
    refine counted ?_
    obtain out | out | unmatched := discarded
    · exact takeReply_of_illFormed (refuseReply_of_noReason (.inl out)) t u _
    · exact takeReply_of_illFormed (refuseReply_of_noReason (.inr out)) t u _
    · exact takeReply_of_unmatched (s := delivered s) unmatched _
  case unitReport u spaces classCode limit maxBlock =>
    cases header
    exact counted (takeUnitReport_of_refused (s := delivered s) discarded spaces classCode)
  case reportEnd =>
    cases header
    have up : s.link.state = .up := discarded
    exact counted (takeReportEnd_of_not_discovery (s := delivered s) (by simp [delivered, up]))
  case unitGone u =>
    cases header
    exact counted (takeUnitGone_of_absent (s := delivered s) discarded)
  case attention u number cause =>
    cases header
    refine counted (takeAttention_of_refused (s := delivered s) (discarded.imp_left fun discovery => ?_) number cause)
    simp [delivered, discovery]
  case undefinedMessage body =>
    cases header
    refine counted ?_
    rw [parseMessage_of_notDefined discarded]
    rfl
  all_goals exact discarded.elim

/-! ## Discovery -/

section
variable {epoch : Epoch} {s : State} (inTraining inSession : State → State)

theorem receiveInEpoch_of_dead (dead : s.link.state = .down ∨ s.link.state = .faulted) :
    receiveInEpoch epoch inTraining inSession s = s := by
  rw [receiveInEpoch]
  obtain hl | hl := dead <;> simp only [hl]

theorem receiveInEpoch_of_otherEpoch (alive : s.link.state = .training ∨ InSession s) (other : epoch ≠ s.link.epoch) :
    receiveInEpoch epoch inTraining inSession s = rxErrorCounted s := by
  rw [receiveInEpoch]
  obtain hl | hl | hl := alive <;> simp only [hl, if_neg other] <;> rfl

theorem receiveInEpoch_of_training (training : s.link.state = .training) (current : epoch = s.link.epoch) :
    receiveInEpoch epoch inTraining inSession s = inTraining s := by
  rw [receiveInEpoch]
  simp only [training, if_pos current]

theorem receiveInEpoch_of_session (session : InSession s) (current : epoch = s.link.epoch) :
    receiveInEpoch epoch inTraining inSession s = inSession s := by
  rw [receiveInEpoch]
  obtain hl | hl := session <;> simp only [hl, if_pos current]

end

/-- Settles O27: a TRAIN-ACK by the link state and its epoch, a REPORT-END by the state it is delivered in. -/
theorem discoveryBeginsAndEnds : Obligations.DiscoveryBeginsAndEnds := by
  intro s epoch h released
  have acked {w : State} (effect : receiveTrainAck epoch s = w) (results : w.results = s.results) :
      exec (.trainAck epoch) s = .next w := takeEvent_next released effect (Nat.le_of_eq (congrArg List.length results))
  have ended {w : State} (inOrder : InOrder h s) (effect : takeReportEnd (delivered s) = w)
      (results : w.results = s.results) : exec (.reportEnd h) s = .next w :=
    takeEvent_next released ((receiveMessage_of_inOrder inOrder .reportEnd).trans effect)
      (Nat.le_of_eq (congrArg List.length results))
  refine ⟨fun training current => acked ?_ rfl,
    fun session current => acked (receiveInEpoch_of_session enterDiscovery id session current) rfl,
    fun alive other => acked (receiveInEpoch_of_otherEpoch enterDiscovery id alive other) rfl,
    fun dead => acked (receiveInEpoch_of_dead enterDiscovery id dead) rfl,
    fun inOrder discovery => ended inOrder (takeReportEnd_of_discovery (s := delivered s) discovery) rfl,
    fun inOrder up => ended inOrder (takeReportEnd_of_not_discovery (s := delivered s) ?_) rfl⟩
  · exact (receiveInEpoch_of_training enterDiscovery id training current).trans (enterDiscovery_eq s)
  · simp [delivered, up]

/-- Settles O42: the report passes every check of R89. -/
theorem unitReportMakesPresent : Obligations.UnitReportMakesPresent := by
  intro s h u spaces classCode limit maxBlock inOrder absent limitLow limitHigh blockLow blockHigh
  have ⟨released, _⟩ := inOrder
  have accepted : reportAccepted u limit maxBlock (delivered s) = true :=
    (reportAccepted_iff u limit maxBlock _).mpr ⟨absent, ⟨limitLow, limitHigh⟩, blockLow, blockHigh⟩
  exact takeEvent_next released
    ((receiveMessage_of_inOrder inOrder _).trans (takeUnitReport_of_accepted accepted spaces classCode)) (Nat.le_refl _)

/-! ## A write to UNIT_MASK -/

/-- Two updates of one unit are one. -/
theorem updUnit_updUnit (u : UnitNo) (f g : UnitRecord → UnitRecord) (s : State) :
    updUnit u f (updUnit u g s) = updUnit u (fun r => f (g r)) s := by
  have h : (updUnit u f (updUnit u g s)).units = (updUnit u (fun r => f (g r)) s).units := units_eq_of fun v => by
    simp only [unit_updUnit]
    split <;> simp
  exact congrArg (fun v => { s with units := v }) h

/-- A held attention in the queue: merged into its unit's record, or a new one at the tail (R105). -/
theorem putInQueue_absorb (u : UnitNo) (held : Attn) (q : List AttnRecord) :
    putInQueue u (Attn.absorb held) held q =
      if ∃ r ∈ q, r.unit = u then
        q.map (fun r =>
          if r.unit = u then
            ⟨u, r.attn.cause ||| held.cause, min 255 (r.attn.count + held.count), held.last, r.attn.ackDue || held.ackDue⟩
          else r)
      else q ++ [⟨u, held⟩] := by
  simp only [putInQueue, queued_iff]
  congr 1
  refine List.map_congr_left fun r _ => ite_congr rfl (fun own => ?_) fun _ => rfl
  rw [own]
  rfl

theorem releaseHeld_of_none {u : UnitNo} {s : State} (empty : (s.unit u).held = none) : releaseHeld u s = s := by
  rw [releaseHeld, empty]

theorem releaseHeld_of_some {u : UnitNo} {s : State} {held : Attn} (holds : (s.unit u).held = some held) :
    releaseHeld u s
      = updUnit u (fun r => { r with held := none })
        { s with attnQueue := putInQueue u (Attn.absorb held) held s.attnQueue } := by
  rw [releaseHeld, holds]

/-- A mask that is not taken off, or has nothing behind it, is only written (R100). -/
theorem writeUnitMask_of_kept {value : Halfword} {s : State}
    (kept : (s.unit s.host.unitSel).masked = false ∨ value.getLsbD 0 = true ∨ (s.unit s.host.unitSel).held = none) :
    writeUnitMask value s = updUnit s.host.unitSel (fun r => { r with masked := value.getLsbD 0 }) s := by
  simp only [writeUnitMask]
  split
  next release =>
    obtain ⟨was, off⟩ := release
    obtain clear | sets | empty := kept
    · exact absurd was (ne_true_of_eq_false clear)
    · exact absurd off (ne_false_of_eq_true sets)
    · rw [releaseHeld_of_none empty]
  next => rfl

/-- A mask that is taken off releases the held attention, the two updates of the unit being one (R105). -/
theorem writeUnitMask_of_release {value : Halfword} {s : State} {held : Attn}
    (holds : (s.unit s.host.unitSel).held = some held) (was : (s.unit s.host.unitSel).masked = true)
    (off : value.getLsbD 0 = false) :
    writeUnitMask value s = updUnit s.host.unitSel (fun r => { r with held := none, masked := value.getLsbD 0 })
      { s with attnQueue := putInQueue s.host.unitSel (Attn.absorb held) held s.attnQueue } := by
  simp only [writeUnitMask, if_pos (And.intro was off), releaseHeld_of_some holds, updUnit_updUnit]

/-- Settles O22: by whether the write takes off a mask that holds an attention back. -/
theorem unitMaskWriteReleasesHeld : Obligations.UnitMaskWriteReleasesHeld := by
  intro s value released u masked written
  refine ⟨fun kept => takeEvent_next released (writeUnitMask_of_kept kept) (Nat.le_refl _), fun held holds was off =>
    takeEvent_next released ((writeUnitMask_of_release holds was off).trans ?_) (Nat.le_refl _)⟩
  rw [updUnit_updUnit, putInQueue_absorb]
  rfl

/-! ## One step -/

theorem step_of_waiting (s : State) (c : Instr) (rest : List Instr) :
    step { s with pending := c :: rest } = exec c { s with pending := rest } := rfl

theorem step_of_idle (s : State) : step { s with pending := [] } = .next { s with pending := [] } := rfl

/-- Settles O1: by whether a command waits. -/
theorem stepTakesFrontCommand : Obligations.StepTakesFrontCommand :=
  fun s c rest => ⟨step_of_waiting s c rest, step_of_idle s⟩

end Sys2Proof.Machine
end

section
/-! SUPPORT. The attention block: a delivered ATTENTION joins the queue or is held (O44), and POP_ATTENTION takes the head
record (O16). -/

namespace Sys2Proof.Machine

/-! ## A delivered ATTENTION -/

/-- The queue with a unit's record changed, the record's own unit being the one named (R103, R105). -/
theorem putInQueue_eq (u : UnitNo) (merge : Attn → Attn) (fresh : Attn) (q : List AttnRecord) :
    putInQueue u merge fresh q =
      if ∃ r ∈ q, r.unit = u then q.map (fun r => if r.unit = u then ⟨u, merge r.attn⟩ else r) else q ++ [⟨u, fresh⟩] := by
  have change (r : AttnRecord) :
      (if r.unit = u then { r with attn := merge r.attn } else r) = if r.unit = u then ⟨u, merge r.attn⟩ else r :=
    ite_congr rfl (fun own => by rw [own]) fun _ => rfl
  exact if_congr (queued_iff u q) (List.map_congr_left fun r _ => change r) rfl

/-- An ATTENTION makes the held attention or merges into it (R104). -/
theorem holdAttention_eq (number : Byte) (cause : Halfword) (held : Option Attn) :
    holdAttention number cause held = (held.map (Attn.merge number cause)).getD (Attn.first number cause) := by
  cases held <;> rfl

section
variable {u : UnitNo} {s : State} (up : s.link.state = .up) (present : (s.unit u).present = true)
include up present

/-- An ATTENTION of an UNMASKED unit goes into the queue (R103). -/
theorem takeAttention_of_unmasked (unmasked : (s.unit u).masked = false) (number : Byte) (cause : Halfword) :
    takeAttention u number cause s
      = { s with attnQueue := putInQueue u (Attn.merge number cause) (Attn.first number cause) s.attnQueue } := by
  rw [takeAttention, if_pos ⟨up, present⟩, if_neg (ne_true_of_eq_false unmasked)]

/-- An ATTENTION of a MASKED unit is held (R104). -/
theorem takeAttention_of_masked (masked : (s.unit u).masked = true) (number : Byte) (cause : Halfword) :
    takeAttention u number cause s = updUnit u (fun r => { r with held := some (holdAttention number cause r.held) }) s := by
  rw [takeAttention, if_pos ⟨up, present⟩, if_pos masked]

end

/-- Settles O44: by the unit's mask. -/
theorem attentionsAreQueuedOrHeld : Obligations.AttentionsAreQueuedOrHeld := by
  intro s h u number cause inOrder up present merged fresh
  have ⟨released, _⟩ := inOrder
  have taken := receiveMessage_of_inOrder inOrder (.attention u number cause)
  refine ⟨fun unmasked => takeEvent_next released (taken.trans ?_) (Nat.le_refl _),
    fun masked => takeEvent_next released (taken.trans ?_) (Nat.le_refl _)⟩
  · rw [deliver, takeAttention_of_unmasked (s := delivered s) up present unmasked, putInQueue_eq]
    rfl
  · rw [deliver, takeAttention_of_masked (s := delivered s) up present masked]
    simp only [holdAttention_eq]
    rfl

/-! ## POP_ATTENTION -/

theorem cmdPopAttention_of_empty {s : State} (empty : s.attnQueue = []) (operand : Byte) :
    cmdPopAttention operand s
      = setResult .empty (updHost (fun h => { h with attnView := { h.attnView with valid := false } }) s) := by
  rw [cmdPopAttention, empty]

theorem cmdPopAttention_of_head {s : State} {r : AttnRecord} {rest : List AttnRecord} (queue : s.attnQueue = r :: rest)
    (operand : Byte) :
    cmdPopAttention operand s
      = setResult .done (oweAttentionAck r
        (updHost (fun h => { h with attnView := ⟨true, r.unit, r.attn.count, r.attn.cause⟩ }) { s with attnQueue := rest })) := by
  rw [cmdPopAttention, queue]

/-- The command's result and the acknowledgement owed are apart. -/
theorem setResult_oweAttentionAck (result : CmdResult) (r : AttnRecord) (s : State) :
    setResult result (oweAttentionAck r s) = oweAttentionAck r (setResult result s) :=
  apply_ite (setResult result) _ _ _

theorem oweAttentionAck_results (r : AttnRecord) (s : State) : (oweAttentionAck r s).results = s.results := by
  unfold oweAttentionAck
  split <;> rfl

/-- Settles O16: the queue is empty or has a head. -/
theorem popAttentionMovesHead : Obligations.PopAttentionMovesHead := by
  intro s operand released
  refine ⟨fun empty => takeEvent_next released (cmdPopAttention_of_empty empty operand) (Nat.le_refl _), ?_⟩
  intro r rest queue popped
  have effect : cmdPopAttention operand s = oweAttentionAck r popped :=
    (cmdPopAttention_of_head queue operand).trans (setResult_oweAttentionAck .done r _)
  have results : (oweAttentionAck r popped).results = s.results := oweAttentionAck_results r popped
  exact takeEvent_next released effect (Nat.le_of_eq (congrArg List.length results))

end Sys2Proof.Machine
end

section
/-! SUPPORT. What a command can do to the link state and the epoch (O4). -/

namespace Sys2Proof.Machine

/-! ## The rows of Table 8.2 -/

@[simp] theorem linkMoves_linkStart (operand : Byte) :
    linkMoves (.linkStart operand) = [(.down, .training), (.faulted, .training)] := rfl

@[simp] theorem linkMoves_train (epoch : Epoch) :
    linkMoves (.train epoch) = [(.down, .training), (.faulted, .training), (.discovery, .faulted), (.up, .faulted)] := rfl

@[simp] theorem linkMoves_restartTimerExpiry : linkMoves .restartTimerExpiry = [(.faulted, .training)] := rfl

@[simp] theorem linkMoves_trainAck (epoch : Epoch) : linkMoves (.trainAck epoch) = [(.training, .discovery)] := rfl

@[simp] theorem linkMoves_trainingIntervalEnd : linkMoves .trainingIntervalEnd = [(.training, .down)] := rfl

@[simp] theorem linkMoves_linkStop (operand : Byte) :
    linkMoves (.linkStop operand) = [(.training, .down), (.faulted, .down), (.discovery, .down), (.up, .down)] := rfl

@[simp] theorem linkMoves_discoveryTimerExpiry : linkMoves .discoveryTimerExpiry = [(.discovery, .faulted)] := rfl

@[simp] theorem linkMoves_nak (epoch : Epoch) (n : SeqNo) :
    linkMoves (.nak epoch n) = [(.discovery, .faulted), (.up, .faulted)] := rfl

@[simp] theorem linkMoves_frameCheckFailure (f : RawFrame) :
    linkMoves (.frameCheckFailure f) = [(.down, .training), (.faulted, .training), (.discovery, .faulted), (.up, .faulted),
      (.training, .discovery), (.discovery, .up)] := rfl

/-- Both resets may take the link from every state to DOWN. -/
theorem linkMoves_of_reset {c : Instr} (kind : isReset c = true) :
    linkMoves c = [(.training, .down), (.faulted, .down), (.discovery, .down), (.up, .down)] := by
  cases c
  case softReset | resetN => rfl
  all_goals cases kind

/-! ## The three fates of the link state -/

/-- What an event does to the link state, of these moves: it leaves state and epoch, or it makes a move into TRAINING, which
takes the next epoch, or another move, which keeps it; and each move sets LINK (R112, R113). -/
inductive LinkFollows (moves : List (LinkState × LinkState)) (s t : State) : Prop where
  | stays (state : t.link.state = s.link.state) (epoch : t.link.epoch = s.link.epoch)
  | trains (move : (s.link.state, .training) ∈ moves) (fresh : s.link.state ≠ .training) (state : t.link.state = .training)
    (epoch : t.link.epoch = s.link.epoch + 1) (raised : t.events.link = true)
  | changes {target : LinkState} (move : (s.link.state, target) ∈ moves) (other : target ≠ .training)
    (state : t.link.state = target) (epoch : t.link.epoch = s.link.epoch) (raised : t.events.link = true)

/-- What O4 asks of an answer that is not a reset's. -/
theorem LinkFollows.table {moves : List (LinkState × LinkState)} {s t : State} (h : LinkFollows moves s t) :
    (t.link.state = s.link.state ∨ (s.link.state, t.link.state) ∈ moves)
      ∧ (t.link.state ≠ s.link.state → t.events.link = true)
      ∧ t.link.epoch =
        if t.link.state = .training ∧ s.link.state ≠ .training then s.link.epoch + 1 else s.link.epoch := by
  cases h with
  | stays state epoch => exact ⟨.inl state, fun moved => absurd state moved, by simp [state, epoch]⟩
  | trains move fresh state epoch raised =>
    exact ⟨.inr (state ▸ move), fun _ => raised, by rw [epoch, if_pos ⟨state, fresh⟩]⟩
  | changes move other state epoch raised =>
    exact ⟨.inr (state ▸ move), fun _ => raised, by rw [epoch, if_neg fun entry => other (state ▸ entry.1)]⟩

section
variable {moves : List (LinkState × LinkState)} {s t w : State}

theorem LinkFollows.of_link (h : t.link = s.link) : LinkFollows moves s t :=
  .stays (congrArg Link.state h) (congrArg Link.epoch h)

/-- What goes before an event and leaves the link state and the epoch alone makes no difference. -/
theorem LinkFollows.after (h : LinkFollows moves w t) (state : w.link.state = s.link.state)
    (epoch : w.link.epoch = s.link.epoch) : LinkFollows moves s t := by
  cases h with
  | stays state' epoch' => exact .stays (state'.trans state) (epoch'.trans epoch)
  | trains move fresh state' epoch' raised => exact .trains (state ▸ move) (state ▸ fresh) state' (epoch ▸ epoch') raised
  | changes move other state' epoch' raised => exact .changes (state ▸ move) other state' (epoch'.trans epoch) raised

/-- Nor does what follows it and leaves the link controller and LINK alone. -/
theorem LinkFollows.then (h : LinkFollows moves s w) (link : t.link = w.link) (raised : t.events.link = w.events.link) :
    LinkFollows moves s t := by
  cases h with
  | stays state epoch => exact .stays (link ▸ state) (link ▸ epoch)
  | trains move fresh state epoch up => exact .trains move fresh (link ▸ state) (link ▸ epoch) (raised.trans up)
  | changes move other state epoch up => exact .changes move other (link ▸ state) (link ▸ epoch) (raised.trans up)

theorem linkFollows_ite {p : Prop} [Decidable p] {a b : State} (ha : LinkFollows moves s a) (hb : LinkFollows moves s b) :
    LinkFollows moves s (if p then a else b) := by
  split
  · exact ha
  · exact hb

theorem linkFlag_afterAppends (before after : Nat) (e : EventUnit) : (e.afterAppends before after).link = e.link := by
  unfold EventUnit.afterAppends
  split <;> rfl

/-- An event follows the table where its effect does: its appends touch RESULT and the holdoff timer alone (R154). -/
theorem takeEvent_linkFollows {effect : State → State} (h : takeEvent effect s = .next t)
    (he : LinkFollows moves s (effect s)) : LinkFollows moves s t := by
  obtain ⟨-, rfl⟩ | ⟨-, rfl⟩ := takeEvent_cases h
  · exact .of_link rfl
  · exact he.then rfl (linkFlag_afterAppends ..)

theorem takeRead_linkFollows {effect : State → State} (h : takeRead effect s = .next t)
    (he : LinkFollows moves s (effect s)) : LinkFollows moves s t := by
  cases hr : s.resetAsserted with
  | true =>
    rw [takeRead_of_asserted hr] at h
    cases h
    exact .of_link rfl
  | false =>
    rw [takeRead_of_released hr] at h
    exact takeEvent_linkFollows h he

/-! ## The changes of link state (Table 8.2) -/

theorem linkFollows_enterTraining (move : (s.link.state, .training) ∈ moves) (fresh : s.link.state ≠ .training) :
    LinkFollows moves s (enterTraining s) := .trains move fresh rfl rfl rfl

theorem linkFollows_linkLoss {reason : LossReason} (move : (s.link.state, lossTarget reason) ∈ moves) :
    LinkFollows moves s (linkLoss reason s) := by
  have link := link_linkLoss reason s
  refine .changes move ?_ (by rw [link]) (by rw [link]) (by rw [events_linkLoss])
  unfold lossTarget
  split <;> decide

/-- The two moves of a link loss that is not the host's. -/
theorem linkFollows_loseEstablished {reason : LossReason} (far : reason ≠ .hostStop)
    (inclusion : [(.discovery, .faulted), (.up, .faulted)] ⊆ moves) : LinkFollows moves s (loseEstablished reason s) := by
  by_cases session : InSession s
  · rw [loseEstablished_of_session session]
    refine linkFollows_linkLoss (inclusion ?_)
    rw [lossTarget, if_neg far]
    obtain h | h := session <;> simp [h]
  · rw [loseEstablished_of_not session]
    exact .of_link rfl

/-- A demand for a pass starts one or loses the link (R126). -/
theorem linkFollows_demandPass (inclusion : [(.discovery, .faulted), (.up, .faulted)] ⊆ moves) :
    LinkFollows moves s (demandPass s) := by
  unfold demandPass
  exact linkFollows_ite (.stays rfl rfl) (linkFollows_loseEstablished (by decide) inclusion)

theorem linkFollows_takeNak (n : SeqNo) (inclusion : [(.discovery, .faulted), (.up, .faulted)] ⊆ moves) :
    LinkFollows moves s (takeNak n s) := by
  unfold takeNak
  refine linkFollows_ite (linkFollows_ite (.stays rfl rfl) (linkFollows_ite (.stays rfl rfl) ?_)) (.of_link rfl)
  exact (linkFollows_demandPass inclusion).after rfl rfl

theorem linkFollows_takeAck (n : SeqNo) : LinkFollows moves s (takeAck n s) := by
  unfold takeAck
  exact linkFollows_ite (.stays rfl rfl) (.of_link rfl)

/-! ## The link timers and the commands of the link -/

theorem linkFollows_endTrainingInterval (s : State) :
    LinkFollows (linkMoves .trainingIntervalEnd) s (endTrainingInterval s) := by
  unfold endTrainingInterval
  split
  · exact .of_link rfl
  by_cases training : s.link.state = .training
  · simp only [if_pos training]
    exact linkFollows_ite (.stays rfl rfl) (.changes (target := .down) (by simp [training]) (by decide) rfl rfl rfl)
  · simp only [if_neg training]
    exact .stays rfl rfl

theorem linkFollows_expireDiscoveryTimer (s : State) :
    LinkFollows (linkMoves .discoveryTimerExpiry) s (expireDiscoveryTimer s) := by
  unfold expireDiscoveryTimer
  split
  · exact .of_link rfl
  by_cases discovery : s.link.state = .discovery
  · simp only [if_pos discovery]
    refine LinkFollows.after (linkFollows_linkLoss ?_) rfl rfl
    simp [discovery, lossTarget]
  · simp only [if_neg discovery]
    exact .stays rfl rfl

theorem linkFollows_expireReplayTimer (s : State) :
    LinkFollows (linkMoves .replayTimerExpiry) s (expireReplayTimer s) := by
  unfold expireReplayTimer
  split
  · exact .of_link rfl
  · exact (linkFollows_demandPass (List.Subset.refl _)).after rfl rfl

theorem linkFollows_expireAckDelay (s : State) : LinkFollows moves s (expireAckDelay s) := by
  unfold expireAckDelay
  split
  · exact .of_link rfl
  · exact .stays rfl rfl

theorem linkFollows_expireRestartTimer (s : State) :
    LinkFollows (linkMoves .restartTimerExpiry) s (expireRestartTimer s) := by
  unfold expireRestartTimer
  split
  · exact .of_link rfl
  by_cases faulted : s.link.state = .faulted
  · simp only [if_pos faulted]
    exact (linkFollows_enterTraining (s := updLink _ s) (by simp [faulted]) (by simp [faulted])).after rfl rfl
  · simp only [if_neg faulted]
    exact .stays rfl rfl

theorem linkFollows_cmdLinkStart (operand : Byte) (s : State) :
    LinkFollows (linkMoves (.linkStart operand)) s (cmdLinkStart operand s) := by
  unfold cmdLinkStart
  split
  case h_1 state | h_2 state =>
    exact (linkFollows_enterTraining (by simp [state]) (by simp [state])).then rfl rfl
  all_goals exact .of_link rfl

theorem linkFollows_cmdLinkStop (operand : Byte) (s : State) :
    LinkFollows (linkMoves (.linkStop operand)) s (cmdLinkStop operand s) := by
  unfold cmdLinkStop
  split
  case h_1 state | h_2 state =>
    exact (linkFollows_linkLoss (by simp [state, lossTarget])).then (setResult_link ..) (by rw [setResult_events])
  case h_3 state | h_4 state =>
    exact .changes (target := .down) (by simp [state]) (by decide) rfl rfl rfl
  case h_5 => exact .of_link rfl

/-! ## Received frames -/

theorem linkFollows_receiveInEpoch {epoch : Epoch} {inTraining inSession : State → State}
    (ht : s.link.state = .training → LinkFollows moves s (inTraining s))
    (hs : InSession s → LinkFollows moves s (inSession s)) :
    LinkFollows moves s (receiveInEpoch epoch inTraining inSession s) := by
  obtain ⟨-, h⟩ | ⟨-, -, h⟩ | ⟨training, -, h⟩ | ⟨session, -, h⟩ := receiveInEpoch_cases epoch inTraining inSession s <;>
    rw [h]
  · exact .of_link rfl
  · exact .stays rfl rfl
  · exact ht training
  · exact hs session

theorem linkFollows_receiveTrain (epoch : Epoch) (inclusion : linkMoves (.train epoch) ⊆ moves) :
    LinkFollows moves s (receiveTrain s) := by
  unfold receiveTrain
  split
  case h_1 state | h_2 state => exact linkFollows_linkLoss (inclusion (by simp [state, lossTarget]))
  case h_3 state | h_4 state =>
    exact linkFollows_ite (linkFollows_enterTraining (inclusion (by simp [state])) (by simp [state])) (.of_link rfl)
  case h_5 => exact .of_link rfl

theorem linkFollows_receiveTrainAck (epoch : Epoch) (inclusion : linkMoves (.trainAck epoch) ⊆ moves) :
    LinkFollows moves s (receiveTrainAck epoch s) :=
  linkFollows_receiveInEpoch
    (fun training => .changes (target := .discovery) (inclusion (by simp [training])) (by decide) rfl rfl rfl)
    fun _ => .of_link rfl

theorem linkFollows_receiveAck (epoch : Epoch) (n : SeqNo) : LinkFollows moves s (receiveAck epoch n s) :=
  linkFollows_receiveInEpoch (fun _ => .of_link rfl) fun _ => linkFollows_takeAck n

theorem linkFollows_receiveNak (epoch : Epoch) (n : SeqNo) (inclusion : linkMoves (.nak epoch n) ⊆ moves) :
    LinkFollows moves s (receiveNak epoch n s) :=
  linkFollows_receiveInEpoch (fun _ => .of_link rfl) fun _ => linkFollows_takeNak n inclusion

/-- Of the messages REPORT-END alone can change the link state (R91). -/
theorem linkFollows_deliver {m : Inbound} (move : m = .reportEnd → (.discovery, .up) ∈ moves) :
    LinkFollows moves s (deliver m s) := by
  cases m with
  | replyData t u final short offset count words => exact .of_link (link_takeReply t u _ s)
  | replyDone t u => exact .of_link (link_takeReply t u _ s)
  | replyRefuse t u reason => exact .of_link (link_takeReply t u _ s)
  | unitReport u spaces classCode limit maxBlock =>
    exact .of_link (link_takeUnitReport u spaces classCode limit maxBlock s)
  | reportEnd =>
    by_cases discovery : s.link.state = .discovery
    · rw [deliver, takeReportEnd_of_discovery discovery]
      exact .changes (target := .up) (discovery ▸ move rfl) (by decide) rfl rfl rfl
    · rw [deliver, takeReportEnd_of_not_discovery discovery]
      exact .of_link rfl
  | unitGone u => exact .of_link (link_takeUnitGone u s)
  | attention u number cause => exact .of_link (link_takeAttention u number cause s)
  | undefined => exact .of_link rfl

theorem linkFollows_sequenceMessage {m : Inbound} (seq : SeqNo) (move : m = .reportEnd → (.discovery, .up) ∈ moves) :
    LinkFollows moves s (sequenceMessage seq m s) := by
  unfold sequenceMessage
  exact linkFollows_ite ((linkFollows_deliver move).after rfl rfl)
    (linkFollows_ite (.stays rfl rfl) (.stays rfl rfl))

theorem linkFollows_receiveMessage {m : Inbound} (h : MsgHeader) (move : m = .reportEnd → (.discovery, .up) ∈ moves) :
    LinkFollows moves s (receiveMessage h m s) := by
  unfold receiveMessage discardMessage
  split
  case h_1 | h_2 => exact linkFollows_ite (.of_link rfl) (.of_link rfl)
  all_goals
    exact linkFollows_receiveInEpoch (fun _ => .of_link rfl) fun _ => linkFollows_sequenceMessage h.seq move

theorem linkFollows_receiveBroken : LinkFollows moves s (receiveBroken s) := by
  unfold receiveBroken
  split
  case h_1 | h_2 => exact .of_link rfl
  all_goals exact .stays rfl rfl

/-- A frame given as its bytes makes the changes of the frame it is (log entry 7). -/
theorem linkFollows_receiveRaw (f : RawFrame) : LinkFollows (linkMoves (.frameCheckFailure f)) s (receiveRaw f s) := by
  unfold receiveRaw
  split
  · exact linkFollows_receiveBroken
  · next frame _ =>
    cases frame with
    | train e => exact linkFollows_receiveTrain e (by simp)
    | trainAck e => exact linkFollows_receiveTrainAck e (by simp)
    | ack e n => exact linkFollows_receiveAck e n
    | nak e n => exact linkFollows_receiveNak e n (by simp)
    | message h body => exact linkFollows_receiveMessage h fun _ => by simp

/-! ## The transmitter -/

theorem linkFollows_takeItem {item : TxItem} {effect : State → State} (h : LinkFollows moves s (effect s)) :
    LinkFollows moves s (takeItem item effect s) := linkFollows_ite h (.of_link rfl)

theorem linkFollows_takeReplayItem (s : State) : LinkFollows moves s (takeReplayItem s) := by
  unfold takeReplayItem
  split
  · exact .stays rfl rfl
  · exact .of_link rfl

theorem linkFollows_takeAttentionAckItem (s : State) : LinkFollows moves s (takeAttentionAckItem s) := by
  unfold takeAttentionAckItem
  split
  · exact .stays rfl rfl
  · exact .of_link rfl

theorem linkFollows_takeCancelItem (s : State) : LinkFollows moves s (takeCancelItem s) := by
  unfold takeCancelItem
  split
  · exact .of_link rfl
  · exact .stays rfl rfl

theorem linkFollows_takeRequestItem (s : State) : LinkFollows moves s (takeRequestItem s) := by
  unfold takeRequestItem
  split
  · exact .of_link rfl
  · exact .stays rfl rfl

/-! ## Writes to registers -/

/-- A code that is none of the eleven is refused (R144). -/
theorem issueCommand_of_undefined {code : Byte} (undefined : code ∉ definedCommandCodes) (operand : Byte) (s : State) :
    issueCommand code operand s = setResult .badCode s := by
  simp only [definedCommandCodes, List.mem_cons, List.not_mem_nil, or_false, not_or] at undefined
  simp only [issueCommand, undefined, if_false]
  rfl

/-- No write to a register without a row of its own reaches the link state. -/
theorem linkFollows_writeRegister {r : Reg} (row : r.writeHasOwnRow = false) (value : Halfword) :
    LinkFollows moves s (writeRegister r value s) := by
  cases r
  case linkTiming => exact .stays rfl rfl
  case cmd | events | eventEn | resultCoalesce | linkCtrl | rxErrors | replayCount | stgDataH | stgDataL | unitMask
      | protoErrors => cases row
  all_goals exact .of_link rfl

theorem linkFollows_clearLinkCounter (counter : LinkCounter) : LinkFollows moves s (clearLinkCounter counter s) := by
  cases counter <;> exact .stays rfl rfl

end

/-! ## Every command -/

/-- A code with no meaning of its own changes CMD_RESULT alone (R144). -/
theorem linkFollows_badCode {code operand : Byte} {moves : List (LinkState × LinkState)} {s : State}
    (wf : (Instr.badCode code operand).wellFormed = true) : LinkFollows moves s (issueCommand code operand s) := by
  have undefined : (!definedCommandCodes.contains code) = true := wf
  rw [issueCommand_of_undefined (by simpa using undefined)]
  exact .of_link rfl

theorem writeHasOwnRow_of_wellFormed {r : Reg} {value : Halfword} (wf : (Instr.registerWrite r value).wellFormed = true) :
    r.writeHasOwnRow = false := Bool.not_eq_true' _ ▸ wf

/-- A body that is no inbound message is no REPORT-END (R119, R139). -/
theorem not_reportEnd_of_wellFormed {h : MsgHeader} {body : List Word}
    (wf : (Instr.undefinedMessage h body).wellFormed = true) : parseMessage body ≠ .reportEnd := by
  have ⟨_, undefined⟩ : decide (body.length ≤ Config.bodyLimit) = true ∧ (!bodyDefined body) = true :=
    Bool.and_eq_true_iff.mp wf
  rw [parseMessage_of_notDefined (Bool.not_eq_true' _ ▸ undefined)]
  nofun

/-- Every command of the host but SOFT_RESET follows Table 8.2. -/
theorem exec_linkFollows_of_host {c : Instr} {s t : State} (wf : c.wellFormed = true) (kind : isReset c = false)
    (host : fromHost c = true) (h : exec c s = .next t) : LinkFollows (linkMoves c) s t := by
  cases c
  case softReset => cases kind
  case submit operand => exact takeEvent_linkFollows h (.of_link (link_cmdSubmit operand s))
  case cancel operand => exact takeEvent_linkFollows h (.of_link (link_onTag (fun t => link_cancelTag t s) operand))
  case popResult operand => exact takeEvent_linkFollows h (.of_link (link_cmdPopResult operand s))
  case release operand => exact takeEvent_linkFollows h (.of_link (link_onTag (fun t => link_releaseTag t s) operand))
  case select operand => exact takeEvent_linkFollows h (.of_link (link_onTag (fun t => link_selectTag t s) operand))
  case popAttention operand => exact takeEvent_linkFollows h (.of_link (link_cmdPopAttention operand s))
  case clearStaging | clearPosted | stgDataHWrite | eventsWrite | eventEnWrite | resultCoalesceWrite | protoErrorsWrite =>
    exact takeEvent_linkFollows h (.of_link rfl)
  case linkStart operand => exact takeEvent_linkFollows h (linkFollows_cmdLinkStart operand s)
  case linkStop operand => exact takeEvent_linkFollows h (linkFollows_cmdLinkStop operand s)
  case badCode code operand => exact takeEvent_linkFollows h (linkFollows_badCode wf)
  case stgDataLWrite value => exact takeEvent_linkFollows h (.of_link (link_writeStgDataL value s))
  case rdDataHRead => exact takeRead_linkFollows h (.of_link (link_readRdDataH s))
  case rdDataLRead => exact takeRead_linkFollows h (.of_link (link_readRdDataL s))
  case unitMaskWrite value => exact takeEvent_linkFollows h (.of_link (link_writeUnitMask value s))
  case linkCtrlWrite value => exact takeEvent_linkFollows h (.stays rfl rfl)
  case linkCounterWrite counter value => exact takeEvent_linkFollows h (linkFollows_clearLinkCounter counter)
  case unusedOffsetAccess place access =>
    cases access with
    | read => exact takeRead_linkFollows h (.of_link rfl)
    | write v => exact takeEvent_linkFollows h (.of_link rfl)
  case registerWrite register value =>
    exact takeEvent_linkFollows h (linkFollows_writeRegister (writeHasOwnRow_of_wellFormed wf) value)
  all_goals cases host

/-- Every arrival on the receive lane, expiry and take follows Table 8.2. -/
theorem exec_linkFollows_of_far {c : Instr} {s t : State} (wf : c.wellFormed = true) (kind : isReset c = false)
    (far : fromHost c = false) (h : exec c s = .next t) : LinkFollows (linkMoves c) s t := by
  cases c
  case resetN => cases kind
  case lossOfSignal => exact takeEvent_linkFollows h (linkFollows_loseEstablished (by decide) (List.Subset.refl _))
  case train epoch => exact takeEvent_linkFollows h (linkFollows_receiveTrain epoch (List.Subset.refl _))
  case trainAck epoch => exact takeEvent_linkFollows h (linkFollows_receiveTrainAck epoch (List.Subset.refl _))
  case ack epoch number => exact takeEvent_linkFollows h (linkFollows_receiveAck epoch number)
  case nak epoch number => exact takeEvent_linkFollows h (linkFollows_receiveNak epoch number (List.Subset.refl _))
  case frameCheckFailure frame => exact takeEvent_linkFollows h (linkFollows_receiveRaw frame)
  case messageOutOfSequence header _ | reportEnd header =>
    exact takeEvent_linkFollows h (linkFollows_receiveMessage header fun _ => List.mem_singleton_self _)
  case undefinedMessage header body =>
    exact takeEvent_linkFollows h
      (linkFollows_receiveMessage header fun ended => absurd ended (not_reportEnd_of_wellFormed wf))
  case replyData header _ _ _ _ _ _ _ | replyDone header _ _ | replyRefuse header _ _ _ | unitReport header _ _ _ _ _
      | unitGone header _ | attention header _ _ _ =>
    exact takeEvent_linkFollows h (linkFollows_receiveMessage header nofun)
  case replyTimerExpiry tag => exact takeEvent_linkFollows h (.of_link (link_expireReplyTimerOf tag s))
  case cancelTimerExpiry tag => exact takeEvent_linkFollows h (.of_link (link_expireCancelTimerOf tag s))
  case trainingIntervalEnd => exact takeEvent_linkFollows h (linkFollows_endTrainingInterval s)
  case discoveryTimerExpiry => exact takeEvent_linkFollows h (linkFollows_expireDiscoveryTimer s)
  case replayTimerExpiry => exact takeEvent_linkFollows h (linkFollows_expireReplayTimer s)
  case ackDelayTimerExpiry => exact takeEvent_linkFollows h (linkFollows_expireAckDelay s)
  case restartTimerExpiry => exact takeEvent_linkFollows h (linkFollows_expireRestartTimer s)
  case holdoffTimerExpiry => exact takeEvent_linkFollows h (.of_link (link_holdoffExpiry s))
  case nakTake | ackTake | trainTake => exact takeEvent_linkFollows h (linkFollows_takeItem (.stays rfl rfl))
  case replayTake => exact takeEvent_linkFollows h (linkFollows_takeItem (linkFollows_takeReplayItem s))
  case attentionAckTake => exact takeEvent_linkFollows h (linkFollows_takeItem (linkFollows_takeAttentionAckItem s))
  case cancelTake => exact takeEvent_linkFollows h (linkFollows_takeItem (linkFollows_takeCancelItem s))
  case requestTake => exact takeEvent_linkFollows h (linkFollows_takeItem (linkFollows_takeRequestItem s))
  case transmitEnd => exact takeEvent_linkFollows h (.stays rfl rfl)
  all_goals cases far

/-- Every command but the resets follows Table 8.2. -/
theorem exec_linkFollows {c : Instr} {s t : State} (wf : c.wellFormed = true) (kind : isReset c = false)
    (h : exec c s = .next t) : LinkFollows (linkMoves c) s t := by
  obtain host | far := Bool.eq_false_or_eq_true (fromHost c)
  · exact exec_linkFollows_of_host wf kind host h
  · exact exec_linkFollows_of_far wf kind far h

/-- What O4 asks of a reset: the link is DOWN or in the state it was in. -/
theorem linkState_of_reset {c : Instr} {s t : State} (kind : isReset c = true) (h : exec c s = .next t) :
    (t.link.state = s.link.state ∨ t.link.state = .down) ∧ (c ≠ .resetN true → t.link.epoch = s.link.epoch) := by
  cases c
  case softReset operand =>
    obtain ⟨-, rfl⟩ | ⟨-, rfl⟩ := takeEvent_cases h
    · exact ⟨.inl rfl, fun _ => rfl⟩
    · exact ⟨.inr rfl, fun _ => rfl⟩
  case resetN asserted =>
    cases asserted <;> cases h
    · exact ⟨.inl rfl, fun _ => rfl⟩
    · exact ⟨.inr rfl, fun other => absurd rfl other⟩
  all_goals cases kind

/-- Settles O4: the two resets, and every other command by its effect on the link. -/
theorem linkStateFollowsTable : Obligations.LinkStateFollowsTable := by
  intro s c wf
  obtain ⟨t, answer⟩ := exec_answers c s
  refine ⟨t, answer, ?_⟩
  obtain kind | kind := Bool.eq_false_or_eq_true (isReset c)
  · obtain ⟨state, epoch⟩ := linkState_of_reset kind answer
    refine ⟨?_, fun _ out => absurd kind (ne_true_of_eq_false out), fun other => ?_⟩
    · by_cases same : t.link.state = s.link.state
      · exact .inl same
      · have down := state.resolve_left same
        refine .inr ?_
        rw [linkMoves_of_reset kind, down]
        rw [down] at same
        cases before : s.link.state <;> simp_all
    · rw [epoch other, if_neg]
      rintro ⟨training, fresh⟩
      obtain same | down := state
      · exact fresh (same ▸ training)
      · cases down.symm.trans training
  · obtain ⟨state, raised, epoch⟩ := (exec_linkFollows wf kind answer).table
    exact ⟨state, fun moved _ => raised moved, fun _ => epoch⟩

end Sys2Proof.Machine
end

section
/-! SUPPORT. The entries to TRAINING and what training sends (O25, O26), LINK_STOP (O28), acknowledgement and replay (O30,
O31), and frames that fail their checks (O32). -/

namespace Sys2Proof.Machine

/-! ## The entries to TRAINING -/

section
variable {s : State}

theorem cmdLinkStart_of_dead (dead : s.link.state = .down ∨ s.link.state = .faulted) (operand : Byte) :
    cmdLinkStart operand s = setResult .done (enterTraining s) := by
  unfold cmdLinkStart
  obtain h | h := dead <;> simp only [h]

theorem cmdLinkStart_of_busy (busy : s.link.state = .training ∨ s.link.state = .discovery ∨ s.link.state = .up)
    (operand : Byte) : cmdLinkStart operand s = withResult .linkBusy s := by
  unfold cmdLinkStart
  obtain h | h | h := busy <;> simp only [h] <;> rfl

theorem expireRestartTimer_of_faulted (faulted : s.link.state = .faulted) (running : s.link.restartTimer.isSome = true) :
    expireRestartTimer s = enterTraining (updLink (fun l => { l with restartTimer := none }) s) := by
  obtain ⟨setting, timer⟩ := Option.isSome_iff_exists.mp running
  simp only [expireRestartTimer, timer, if_pos faulted]

theorem expireRestartTimer_of_stopped (stopped : s.link.restartTimer = none) : expireRestartTimer s = s := by
  simp only [expireRestartTimer, stopped]

theorem receiveTrain_of_dead (dead : s.link.state = .down ∨ s.link.state = .faulted) :
    receiveTrain s = if s.link.autoRestart then enterTraining s else s := by
  unfold receiveTrain
  obtain h | h := dead <;> simp only [h]

theorem receiveTrain_of_training (training : s.link.state = .training) : receiveTrain s = s := by
  simp only [receiveTrain, training]

end

/-- Settles O25: by the link state, each entry being the same. -/
theorem linkStartEntersTraining : Obligations.LinkStartEntersTraining := by
  intro s operand epoch released entered
  refine ⟨fun dead => takeEvent_next released (cmdLinkStart_of_dead dead operand) (Nat.le_refl _),
    fun busy => takeEvent_next released (cmdLinkStart_of_busy busy operand) (Nat.le_refl _),
    fun faulted running => takeEvent_next released (expireRestartTimer_of_faulted faulted running) (Nat.le_refl _),
    fun stopped => takeEvent_next released (expireRestartTimer_of_stopped stopped) (Nat.le_refl _),
    fun dead enabled => takeEvent_next released ?_ (Nat.le_refl _),
    fun dead disabled => takeEvent_next released ?_ (Nat.le_refl _),
    fun training => takeEvent_next released (receiveTrain_of_training training) (Nat.le_refl _)⟩
  · rw [receiveTrain_of_dead dead, if_pos enabled]
    rfl
  · rw [receiveTrain_of_dead dead, if_neg (ne_true_of_eq_false disabled)]

/-! ## Training -/

section
variable {s : State}

/-- In TRAINING no ACK is to be sent, so the due TRAIN follows NAK alone (R57). -/
theorem choice_train (idle : s.link.transmitter = none) (noNak : s.link.recv.nakOwed = false)
    (training : s.link.state = .training) (due : s.link.trainDue = true) : arbiterChoice s = some .train := by
  have nak : ¬ applies s .nak = true := ne_true_of_eq_false noNak
  have ack : ¬ applies s .ack = true := fun h => by
    obtain ⟨-, session⟩ := (applies_ack_iff s).mp h
    simp [InSession, training] at session
  have train := (applies_train_iff s).mpr ⟨training, due⟩
  simp [choice_of_idle idle, arbiterOrder, nak, ack, train]

theorem endTrainingInterval_of_training (running : s.link.trainingInterval.isSome = true)
    (training : s.link.state = .training) :
    endTrainingInterval s =
      if s.link.trainingLimit = 0 ∨ s.link.attempts < s.link.trainingLimit.toNat then
        { s with link := { s.link with trainingInterval := none, trainDue := true } }
      else
        { s with
          link := { s.link with
            state := .down, lastLoss := .trainLimit, trainingInterval := none, trainDue := false, transmitter := none }
          events := { s.events with link := true } } := by
  obtain ⟨setting, timer⟩ := Option.isSome_iff_exists.mp running
  simp only [endTrainingInterval, timer, if_pos training]
  rfl

theorem endTrainingInterval_of_other (running : s.link.trainingInterval.isSome = true)
    (other : s.link.state ≠ .training) :
    endTrainingInterval s = { s with link := { s.link with trainingInterval := none } } := by
  obtain ⟨setting, timer⟩ := Option.isSome_iff_exists.mp running
  simp only [endTrainingInterval, timer, if_neg other]
  rfl

theorem endTrainingInterval_of_stopped (stopped : s.link.trainingInterval = none) : endTrainingInterval s = s := by
  simp only [endTrainingInterval, stopped]

end

/-- Settles O26: the take is the arbiter's, and the interval ends by the link state and the limit. -/
theorem trainingSendsTrains : Obligations.TrainingSendsTrains := by
  intro s released
  refine ⟨fun idle noNak training due =>
      takeEvent_next released (takeItem_of_eq (choice_train idle noNak training due) _) (Nat.le_refl _),
    fun running training => ?_,
    fun running other => takeEvent_next released (endTrainingInterval_of_other running other) (Nat.le_refl _),
    fun stopped => takeEvent_next released (endTrainingInterval_of_stopped stopped) (Nat.le_refl _)⟩
  have ended := endTrainingInterval_of_training running training
  refine ⟨fun below => takeEvent_next released (ended.trans (if_pos below)) (Nat.le_refl _),
    fun limited reached => takeEvent_next released (ended.trans (if_neg ?_)) (Nat.le_refl _)⟩
  rintro (unlimited | below)
  · exact limited unlimited
  · exact Nat.not_lt.mpr reached below

/-! ## LINK_STOP -/

/-- A link loss says nothing of CMD_RESULT but that it keeps it. -/
theorem LinkLost.withResult {reason : LossReason} {target : LinkState} {s t : State} (h : LinkLost reason target s t)
    (r : CmdResult) : LinkLost reason target (withResult r s) (withResult r t) := by
  obtain ⟨settles, dispatch, cancels, units, attentions, link, events, frame⟩ := h
  refine ⟨settles, dispatch, cancels, units, attentions, link, events, ?_⟩
  conv => lhs; rw [frame]
  rfl

section
variable {s : State}

theorem cmdLinkStop_of_session (session : InSession s) (operand : Byte) :
    cmdLinkStop operand s = setResult .done (linkLoss .hostStop s) := by
  unfold cmdLinkStop
  obtain h | h := session <;> simp only [h]

theorem cmdLinkStop_of_training (training : s.link.state = .training) (operand : Byte) :
    cmdLinkStop operand s
      = setResult .done (changeState .down (updLink (fun l => { l with trainingInterval := none, trainDue := false }) s)) := by
  simp only [cmdLinkStop, training]

theorem cmdLinkStop_of_faulted (faulted : s.link.state = .faulted) (operand : Byte) :
    cmdLinkStop operand s
      = setResult .done (changeState .down (updLink (fun l => { l with restartTimer := none }) s)) := by
  simp only [cmdLinkStop, faulted]

theorem cmdLinkStop_of_down (down : s.link.state = .down) (operand : Byte) :
    cmdLinkStop operand s = withResult .done s := by
  simp only [cmdLinkStop, down]
  rfl

end

/-- Settles O28: by the link state; CMD_RESULT is apart from the link loss. -/
theorem linkStopTakesLinkDown : Obligations.LinkStopTakesLinkDown := by
  intro s operand released done
  refine ⟨fun session => ⟨_, takeEvent_of_released released _, ?_⟩,
    fun training => takeEvent_next released (cmdLinkStop_of_training training operand) (Nat.le_refl _),
    fun faulted => takeEvent_next released (cmdLinkStop_of_faulted faulted operand) (Nat.le_refl _),
    fun down => takeEvent_next released (cmdLinkStop_of_down down operand) (Nat.le_refl _)⟩
  rw [cmdLinkStop_of_session session]
  have lost := (linkLost_linkLoss .hostStop s).withResult .done
  generalize linkLoss .hostStop s = w at *
  exact lost

/-! ## Acknowledgement -/

/-- An acknowledgement, whether or not it removes a frame (R123). -/
theorem acknowledge_eq (setting : Nat) (n : SeqNo) (d : SendSide) :
    d.acknowledge setting n =
      if (n - oldestUnacknowledged d).toNat = 0 then d
      else
        { d with
          replayList := d.replayList.drop (n - oldestUnacknowledged d).toNat
          episode := 0
          replayTimer := if d.replayList.drop (n - oldestUnacknowledged d).toNat = [] then none else some setting
          pass := if d.replayList.drop (n - oldestUnacknowledged d).toNat = [] then none
            else d.pass.map (fun i => i - (n - oldestUnacknowledged d).toNat) } := by
  simp only [SendSide.acknowledge, oldest_eq]

section
variable {s : State} {n : SeqNo}

theorem takeAck_of_out (out : ¬ InWindow s.link.send n) : takeAck n s = protoErrorCounted s :=
  if_neg (mt (inWindow_iff _ n).mp out)

theorem takeAck_of_in (window : InWindow s.link.send n) :
    takeAck n s = updSend (SendSide.acknowledge (s.link.replayTimeout * 8) n) s := if_pos ((inWindow_iff _ n).mpr window)

end

/-- Settles O30: by the link state and the epoch, and in a session by the window and the frames removed. -/
theorem ackShortensReplayList : Obligations.AckShortensReplayList := by
  intro s epoch n released d removed left
  have acked {w : State} (effect : receiveAck epoch n s = w) (results : w.results = s.results) :
      exec (.ack epoch n) s = .next w := takeEvent_next released effect (Nat.le_of_eq (congrArg List.length results))
  refine ⟨fun session current => ?_, fun alive other => acked (receiveInEpoch_of_otherEpoch _ _ alive other) rfl,
    fun training current => acked (receiveInEpoch_of_training _ _ training current) rfl,
    fun dead => acked (receiveInEpoch_of_dead _ _ dead) rfl⟩
  have taken : receiveAck epoch n s = takeAck n s := receiveInEpoch_of_session _ _ session current
  refine ⟨fun out => acked (taken.trans (takeAck_of_out out)) rfl, fun window none => acked (taken.trans ?_) rfl,
    fun window some => acked (taken.trans ?_) rfl⟩
  · rw [takeAck_of_in window, updSend, updLink, acknowledge_eq, if_pos none]
  · rw [takeAck_of_in window, updSend, updLink, acknowledge_eq, if_neg (Nat.ne_of_gt some)]

/-! ## Replay -/

section
variable {s : State} {n : SeqNo}

theorem takeNak_of_out (out : ¬ InWindow s.link.send n) : takeNak n s = protoErrorCounted s :=
  if_neg (mt (inWindow_iff _ n).mp out)

/-- A NAK of the next number acknowledges every frame, as the ACK of that number does (R124). -/
theorem takeNak_of_next (window : InWindow s.link.send n) (next : n = s.link.send.next) : takeNak n s = takeAck n s := by
  simp only [takeNak, takeAck, if_pos ((inWindow_iff _ n).mpr window), if_pos next]

/-- A NAK of a frame on the list acknowledges those before it; a pass in progress goes on from the head, and else one is
demanded (R124). -/
theorem takeNak_of_frame (window : InWindow s.link.send n) (sent : n ≠ s.link.send.next) {acked : SendSide}
    (acknowledged : s.link.send.acknowledge (s.link.replayTimeout * 8) n = acked) :
    takeNak n s =
      if acked.pass.isSome then { s with link := { s.link with send := { acked with pass := some 0 } } }
      else demandPass (updSend (fun _ => acked) s) := by
  subst acknowledged
  simp only [takeNak, if_pos ((inWindow_iff _ n).mpr window), if_neg sent]
  rfl

/-- A demand below the episode limit, with a send side that an acknowledgement or an expiry has left (R126). -/
theorem demandPass_updSend_of_lt {d : SendSide} (below : d.episode < 4) :
    demandPass (updSend (fun _ => d) s) = { s with
      link := { s.link with
        send := { d with pass := some 0, episode := d.episode + 1, replayTimer := some (s.link.replayTimeout * 8) }
        replayCount := if s.link.replayCount < 65535 then s.link.replayCount + 1 else s.link.replayCount } } :=
  demandPass_of_lt (s := updSend (fun _ => d) s) below

/-- A demand at the limit, in a session, is link loss, whatever became of the send side before it (R126). -/
theorem answers_demandPass_of_limit {effect : State → State} {d : SendSide} (released : s.resetAsserted = false)
    (session : InSession s) (limit : 4 ≤ d.episode) (he : effect s = demandPass (updSend (fun _ => d) s)) :
    Answers (takeEvent effect s) (LinkLost .replayLimit .faulted s) := by
  have lost : effect s = linkLoss .replayLimit (updSend (fun _ => d) s) :=
    (he.trans (demandPass_of_le limit)).trans (loseEstablished_of_session (s := updSend _ s) session _)
  obtain ⟨t, answer, lost⟩ := answers_linkLost released lost rfl
  exact ⟨t, answer, lost⟩

theorem expireReplayTimer_of_running (running : s.link.send.replayTimer.isSome = true) :
    expireReplayTimer s = demandPass (updSend (fun _ => { s.link.send with replayTimer := none }) s) := by
  obtain ⟨setting, timer⟩ := Option.isSome_iff_exists.mp running
  simp only [expireReplayTimer, timer]
  rfl

theorem expireReplayTimer_of_stopped (stopped : s.link.send.replayTimer = none) : expireReplayTimer s = s := by
  simp only [expireReplayTimer, stopped]

end

/-- Settles O31: the NAK is its acknowledgement and then a pass; the demand for one is by the episode count. -/
theorem nakAndReplayTimerDemandPass : Obligations.NakAndReplayTimerDemandPass := by
  intro s epoch n released d removed left setting counted acked
  have naked {w : State} (effect : receiveNak epoch n s = w) (results : w.results = s.results) :
      exec (.nak epoch n) s = .next w := takeEvent_next released effect (Nat.le_of_eq (congrArg List.length results))
  refine ⟨fun session current => ?_, fun alive other => naked (receiveInEpoch_of_otherEpoch _ _ alive other) rfl,
    fun training current => naked (receiveInEpoch_of_training _ _ training current) rfl,
    fun dead => naked (receiveInEpoch_of_dead _ _ dead) rfl, fun session => ?_⟩
  · have taken : receiveNak epoch n s = takeNak n s := receiveInEpoch_of_session _ _ session current
    have acknowledged : d.acknowledge (s.link.replayTimeout * 8) n = acked := acknowledge_eq _ n d
    have passed (window : InWindow d n) (sent : n ≠ d.next) := taken.trans (takeNak_of_frame window sent acknowledged)
    have demanded (window : InWindow d n) (sent : n ≠ d.next) (idle : acked.pass = none) :
        receiveNak epoch n s = demandPass (updSend (fun _ => acked) s) :=
      (passed window sent).trans (if_neg (by simp [idle]))
    refine ⟨fun out => naked (taken.trans (takeNak_of_out out)) rfl, fun window next => ?_,
      fun window sent passing => naked ((passed window sent).trans (if_pos passing)) rfl,
      fun window sent idle below => naked ((demanded window sent idle).trans (demandPass_updSend_of_lt below)) rfl,
      fun window sent idle limit => answers_demandPass_of_limit released session limit (demanded window sent idle)⟩
    have ack : receiveAck epoch n s = takeAck n s := receiveInEpoch_of_session _ _ session current
    exact takeEvent_congr (taken.trans ((takeNak_of_next window next).trans ack.symm))
  · have expired (running : d.replayTimer.isSome = true) := expireReplayTimer_of_running (s := s) running
    refine ⟨fun running below => takeEvent_next released ((expired running).trans ?_) (Nat.le_refl _),
      fun running limit => answers_demandPass_of_limit released session ?_ (expired running),
      fun stopped => takeEvent_next released (expireReplayTimer_of_stopped stopped) (Nat.le_refl _)⟩
    · exact demandPass_updSend_of_lt (d := { d with replayTimer := none }) below
    · exact limit

/-! ## Frames that fail their checks -/

theorem receiveRaw_of_failed {f : RawFrame} (failed : f.check.toOption = none) (s : State) :
    receiveRaw f s = receiveBroken s := by
  unfold receiveRaw
  cases check : f.check with
  | error e => rfl
  | ok frame =>
    rw [check] at failed
    cases failed

section
variable {s : State}

theorem receiveBroken_of_dead (dead : s.link.state = .down ∨ s.link.state = .faulted) : receiveBroken s = s := by
  unfold receiveBroken
  obtain h | h := dead <;> simp only [h]

theorem receiveBroken_of_training (training : s.link.state = .training) : receiveBroken s = rxErrorCounted s := by
  simp only [receiveBroken, training, countRxError_eq]

theorem receiveBroken_of_session (session : InSession s) :
    receiveBroken s = updRecv nakAsked (rxErrorCounted s) := by
  unfold receiveBroken
  obtain h | h := session <;> simp only [h] <;> rfl

theorem expireAckDelay_of_running (running : s.link.recv.ackDelayTimer.isSome = true) :
    expireAckDelay s = updRecv (fun v => { v with ackDelayTimer := none, ackOwed := true }) s := by
  obtain ⟨setting, timer⟩ := Option.isSome_iff_exists.mp running
  simp only [expireAckDelay, timer]

theorem expireAckDelay_of_stopped (stopped : s.link.recv.ackDelayTimer = none) : expireAckDelay s = s := by
  simp only [expireAckDelay, stopped]

end

/-- Settles O32: by the link state, and by the acknowledgement delay timer. -/
theorem brokenFramesAskForReplay : Obligations.BrokenFramesAskForReplay := by
  intro s f released
  refine ⟨fun failed => ?_,
    fun running => takeEvent_next released (expireAckDelay_of_running running) (Nat.le_refl _),
    fun stopped => takeEvent_next released (expireAckDelay_of_stopped stopped) (Nat.le_refl _)⟩
  have broken := receiveRaw_of_failed failed s
  exact ⟨fun dead => takeEvent_next released (broken.trans (receiveBroken_of_dead dead)) (Nat.le_refl _),
    fun training => takeEvent_next released (broken.trans (receiveBroken_of_training training)) (Nat.le_refl _),
    fun session => takeEvent_next released (broken.trans (receiveBroken_of_session session)) (Nat.le_refl _)⟩

end Sys2Proof.Machine
end

section
/-! SUPPORT. Received frames: the CRC, what each check of a frame answers, and the frames the part forms (O49). -/

namespace Sys2Proof

/-! ## The CRC (R136) -/

theorem crcStep_eq : crcStep = fun r : BitVec 16 => if r.getLsbD 15 then (r <<< 1) ^^^ 0x1021#16 else r <<< 1 := by
  funext r
  rw [crcStep, BitVec.msb_eq_getLsbD_last]

theorem crc16_append_byte (bytes : List Byte) (b : Byte) :
    crc16 (bytes ++ [b]) = Nat.repeat crcStep 8 (crc16 bytes ^^^ (b ++ 0#8 : BitVec 16)) := by
  rw [crc16, List.foldl_append]
  rfl

/-- The CRC of the nine test bytes (R136). -/
theorem crc16_testBytes :
    crc16 [0x31#8, 0x32#8, 0x33#8, 0x34#8, 0x35#8, 0x36#8, 0x37#8, 0x38#8, 0x39#8] = 0x29B1#16 := by decide +kernel

/-! ## The two checks (R117) -/

/-- The two bytes of the CRC, as they end a frame. -/
def crcBytes (content : List Byte) : List Byte :=
  [(crc16 content).extractLsb' 8 8, (crc16 content).extractLsb' 0 8]

/-- Four bytes or more and two after them pass the CRC check exactly where the two are their CRC (R136, R137). -/
theorem crcPasses_append_iff (content : List Byte) (hi lo : Byte) (long : 4 ≤ content.length) :
    RawFrame.crcPasses ⟨content ++ [hi, lo], false⟩ = true ↔ [hi, lo] = crcBytes content := by
  simp [RawFrame.crcPasses, crcBytes, long]

theorem check_of_crcFails {f : RawFrame} (fails : f.crcPasses = false) : f.check = .error .crc :=
  if_neg (ne_true_of_eq_false fails)

/-- A frame with its CRC is left to the form check of its other bytes. -/
theorem check_toOption_of_crcBytes {content : List Byte} (long : 4 ≤ content.length) :
    (RawFrame.check ⟨content ++ crcBytes content, false⟩).toOption = parseFrame content := by
  have passes : RawFrame.crcPasses ⟨content ++ crcBytes content, false⟩ = true :=
    (crcPasses_append_iff content _ _ long).mpr rfl
  have cut : (content ++ crcBytes content).take ((content ++ crcBytes content).length - 2) = content := by
    simp [crcBytes]
  rw [RawFrame.check, if_pos passes, cut]
  cases parseFrame content <;> rfl

theorem check_eq_ok_of_toOption {f : RawFrame} {frame : Frame} (h : f.check.toOption = some frame) :
    f.check = .ok frame := by
  cases check : f.check with
  | error e =>
    rw [check] at h
    cases h
  | ok read =>
    rw [check] at h
    cases h
    rfl

theorem crcPasses_of_brokenOff_or_short {f : RawFrame} (fault : f.brokenOff = true ∨ f.bytes.length < 6) :
    f.crcPasses = false := by
  obtain broken | short := fault
  · simp [RawFrame.crcPasses, broken]
  · simp [RawFrame.crcPasses, Nat.not_le.mpr short]

/-- Two bytes that are not the CRC of those before them fail the CRC check. -/
theorem crcPasses_of_otherCrc {bytes : List Byte} {hi lo : Byte} (other : (hi ++ lo : BitVec 16) ≠ crc16 bytes) :
    RawFrame.crcPasses ⟨bytes ++ [hi, lo], false⟩ = false := by
  obtain short | long := Nat.lt_or_ge bytes.length 4
  · exact crcPasses_of_brokenOff_or_short (.inr (by simpa using Nat.add_lt_add_right short 2))
  · refine Bool.eq_false_iff.mpr fun passes => other ?_
    have last := (crcPasses_append_iff bytes hi lo long).mp passes
    simp only [crcBytes, List.cons.injEq, and_true] at last
    rw [last.1, last.2, append_bytes_halfword]

/-! ## The form (Table 9.2) -/

/-- The frame of a type of Table 9.3 with these fields; none where the type is none of the five. -/
def typedFrame (type : Byte) (epoch : Epoch) (number : SeqNo) (body : List Word) : Option Frame :=
  if type = 0x01#8 then some (.train epoch)
  else if type = 0x02#8 then some (.trainAck epoch)
  else if type = 0x03#8 then some (.ack epoch number)
  else if type = 0x04#8 then some (.nak epoch number)
  else if type = 0x08#8 then some (.message ⟨epoch, number⟩ body)
  else none

/-- What the form check reads in a header and a body (R137). -/
theorem parseFrame_content (b0 b1 b2 b3 : Byte) (body : List Word) :
    parseFrame ([b0, b1, b2, b3] ++ body.flatMap bytesOfWord) =
      if body.length = b3.toNat ∧ b3.toNat ≤ 20 then typedFrame b0 (b2.extractLsb' 0 4) (b1.extractLsb' 0 5) body
      else none := by
  simp only [List.cons_append, List.nil_append, parseFrame, wordsOfBytes_flatMap]
  rfl

theorem four_le_length_content (b0 b1 b2 b3 : Byte) (rest : List Byte) : 4 ≤ ([b0, b1, b2, b3] ++ rest).length := by
  simp

/-- The number and the epoch of a formed frame are read back from under their reserved bits. -/
theorem extractLsb'_append_zero {n w : Nat} (x : BitVec w) : (0#n ++ x).extractLsb' 0 w = x := by
  apply BitVec.eq_of_getLsbD_eq
  intro i hi
  simp [BitVec.getLsbD_append, hi]

end Sys2Proof

namespace Sys2Proof.Machine

/-- A formed frame of at most 20 body words reads back as the frame of its type and fields (R135, R137). -/
theorem check_frameBytes {type : Byte} {number : SeqNo} {epoch : Epoch} {body : List Word} {frame : Frame}
    (room : body.length ≤ 20) (typed : typedFrame type epoch number body = some frame) :
    RawFrame.check ⟨frameBytes type number epoch body, false⟩ = .ok frame := by
  have count : (BitVec.ofNat 8 body.length).toNat = body.length := by
    rw [BitVec.toNat_ofNat]
    omega
  refine check_eq_ok_of_toOption ((check_toOption_of_crcBytes (four_le_length_content ..)).trans ?_)
  rw [parseFrame_content, count, if_pos ⟨rfl, room⟩, extractLsb'_append_zero, extractLsb'_append_zero, typed]

/-- Settles O49: the CRC check and the form check of a frame, and of the frames formed. -/
theorem framesReadBackAsFormed : Obligations.FramesReadBackAsFormed := by
  intro b0 b1 b2 b3 body seq epoch f content raw number inEpoch
  refine ⟨(check_toOption_of_crcBytes (four_le_length_content ..)).trans (parseFrame_content b0 b1 b2 b3 body),
    fun room => check_frameBytes room rfl, check_frameBytes (Nat.zero_le _) rfl, check_frameBytes (Nat.zero_le _) rfl,
    check_frameBytes (Nat.zero_le _) rfl, fun fault => check_of_crcFails (crcPasses_of_brokenOff_or_short fault),
    fun other => check_of_crcFails (crcPasses_of_otherCrc other), rfl, ?_, crc16_testBytes⟩
  rw [crc16_append_byte, crcStep_eq]

end Sys2Proof.Machine
end

section
/-! SUPPORT. The queue of waiting commands is the environment's: no operation of the part reads it or changes it, so each
commutes with putting another queue in its place (O2). Updates alone commute by rfl; what remains to prove are the choices
and the folds. -/

namespace Sys2Proof.Machine

/-- The state with another queue of waiting commands. -/
def State.awaiting (q : List Instr) (s : State) : State := { s with pending := q }

section
variable (q : List Instr) (s : State)

/-! ## What is read of a state -/

@[simp] theorem staging_awaiting : (s.awaiting q).staging = s.staging := rfl
@[simp] theorem results_awaiting : (s.awaiting q).results = s.results := rfl
@[simp] theorem owedCancels_awaiting : (s.awaiting q).owedCancels = s.owedCancels := rfl
@[simp] theorem attnQueue_awaiting : (s.awaiting q).attnQueue = s.attnQueue := rfl
@[simp] theorem link_awaiting : (s.awaiting q).link = s.link := rfl
@[simp] theorem events_awaiting : (s.awaiting q).events = s.events := rfl
@[simp] theorem tag_awaiting (t : Tag) : (s.awaiting q).tag t = s.tag t := rfl
@[simp] theorem unit_awaiting (u : UnitNo) : (s.awaiting q).unit u = s.unit u := rfl
@[simp] theorem submitCheck_awaiting : submitCheck (s.awaiting q) = submitCheck s := rfl
@[simp] theorem lowestFreeTag_awaiting : lowestFreeTag (s.awaiting q) = lowestFreeTag s := rfl
@[simp] theorem portWord_awaiting : portWord (s.awaiting q) = portWord s := rfl
@[simp] theorem ackOwedUnit_awaiting : ackOwedUnit (s.awaiting q) = ackOwedUnit s := rfl
@[simp] theorem dispatchChoice_awaiting : dispatchChoice (s.awaiting q) = dispatchChoice s := rfl
@[simp] theorem replaySetting_awaiting : replaySetting (s.awaiting q) = replaySetting s := rfl

/-! ## Updates, and what is made of updates alone -/

@[simp] theorem updTag_awaiting (t : Tag) (f : TagRecord → TagRecord) :
    updTag t f (s.awaiting q) = (updTag t f s).awaiting q := rfl
@[simp] theorem updLink_awaiting (f : Link → Link) : updLink f (s.awaiting q) = (updLink f s).awaiting q := rfl
@[simp] theorem updSend_awaiting (f : SendSide → SendSide) : updSend f (s.awaiting q) = (updSend f s).awaiting q := rfl
@[simp] theorem updHost_awaiting (f : HostPort → HostPort) : updHost f (s.awaiting q) = (updHost f s).awaiting q := rfl
@[simp] theorem setResult_awaiting (r : CmdResult) : setResult r (s.awaiting q) = (setResult r s).awaiting q := rfl
@[simp] theorem returnCredit_awaiting (u : UnitNo) : returnCredit u (s.awaiting q) = (returnCredit u s).awaiting q := rfl
@[simp] theorem reportPosted_awaiting (t : Tag) (reason : PostedReason) :
    reportPosted t reason (s.awaiting q) = (reportPosted t reason s).awaiting q := rfl
@[simp] theorem freeTag_awaiting (t : Tag) : freeTag t (s.awaiting q) = (freeTag t s).awaiting q := rfl
@[simp] theorem orphanTag_awaiting (t : Tag) : orphanTag t (s.awaiting q) = (orphanTag t s).awaiting q := rfl
@[simp] theorem completeTag_awaiting (t : Tag) (e : Ending) :
    completeTag t e (s.awaiting q) = (completeTag t e s).awaiting q := rfl
@[simp] theorem changeState_awaiting (target : LinkState) :
    changeState target (s.awaiting q) = (changeState target s).awaiting q := rfl

/-! ## Choices and folds -/

/-- A choice between two states commutes where both do. -/
theorem ite_awaiting {q : List Instr} {p : Prop} {_ : Decidable p} {a b a' b' : State} (ha : a' = a.awaiting q)
    (hb : b' = b.awaiting q) : (if p then a' else b') = (if p then a else b).awaiting q := by
  split
  · exact ha
  · exact hb

/-- A fold commutes where each of its steps does. -/
theorem foldl_awaiting {α : Type} {f : State → α → State} (step : ∀ s a, f (s.awaiting q) a = (f s a).awaiting q)
    (l : List α) : l.foldl f (s.awaiting q) = (l.foldl f s).awaiting q := by
  induction l generalizing s with
  | nil => rfl
  | cons a l ih => rw [List.foldl_cons, List.foldl_cons, step, ih]

/-! ## The tag table -/

@[simp] theorem releaseMarks_awaiting (u : UnitNo) : releaseMarks u (s.awaiting q) = (releaseMarks u s).awaiting q :=
  foldl_awaiting q s (fun s t => completeTag_awaiting q s t markEnding) (frontMarks u s)

@[simp] theorem completeAndRelease_awaiting (t : Tag) (e : Ending) :
    completeAndRelease t e (s.awaiting q) = (completeAndRelease t e s).awaiting q := by simp [completeAndRelease]

@[simp] theorem freeAndRelease_awaiting (t : Tag) :
    freeAndRelease t (s.awaiting q) = (freeAndRelease t s).awaiting q := by simp [freeAndRelease]

@[simp] theorem orphanAndRelease_awaiting (t : Tag) :
    orphanAndRelease t (s.awaiting q) = (orphanAndRelease t s).awaiting q := by simp [orphanAndRelease]

@[simp] theorem settleTag_awaiting (outcome : TxOutcome) (reason : PostedReason) (t : Tag) :
    settleTag outcome reason t (s.awaiting q) = (settleTag outcome reason t s).awaiting q := by
  cases state : (s.tag t).state <;> simp only [settleTag, tag_awaiting, state]
  case complete | orphaned => rfl
  all_goals exact ite_awaiting rfl rfl

@[simp] theorem settleAllTags_awaiting : settleAllTags (s.awaiting q) = (settleAllTags s).awaiting q :=
  foldl_awaiting q s (fun s t => settleTag_awaiting q s .linkLost .linkLost t) allTags

@[simp] theorem settleUnitTags_awaiting (u : UnitNo) :
    settleUnitTags u (s.awaiting q) = (settleUnitTags u s).awaiting q := by
  refine foldl_awaiting q s (fun s t => ?_) allTags
  exact ite_awaiting (settleTag_awaiting q s .unitGone .unitGone t) rfl

/-! ## The commands on tags -/

theorem placeTag_awaiting (t : Tag) (k : Kind) : placeTag t k (s.awaiting q) = (placeTag t k s).awaiting q :=
  ite_awaiting (ite_awaiting rfl rfl) rfl

theorem acceptSubmit_awaiting (t : Tag) (k : Kind) :
    acceptSubmit t k (s.awaiting q) = (acceptSubmit t k s).awaiting q := by
  rw [acceptSubmit_eq, acceptSubmit_eq, show fillTag t k (s.awaiting q) = (fillTag t k s).awaiting q from rfl,
    placeTag_awaiting]
  rfl

theorem cmdSubmit_awaiting (operand : Byte) : cmdSubmit operand (s.awaiting q) = (cmdSubmit operand s).awaiting q := by
  simp only [cmdSubmit, submitCheck_awaiting, staging_awaiting, lowestFreeTag_awaiting, acceptSubmit_awaiting]
  split <;> rfl

theorem onTag_awaiting {command : Tag → State → State} (h : ∀ t, command t (s.awaiting q) = (command t s).awaiting q)
    (operand : Byte) : onTag operand command (s.awaiting q) = (onTag operand command s).awaiting q := by
  unfold onTag
  split
  · rfl
  · exact h _

theorem cancelTag_awaiting (t : Tag) : cancelTag t (s.awaiting q) = (cancelTag t s).awaiting q := by
  refine ite_awaiting rfl ?_
  cases state : (s.tag t).state <;> simp only [tag_awaiting, state]
  case queued | waiting => rw [updTag_awaiting, completeAndRelease_awaiting, setResult_awaiting]
  all_goals rfl

theorem dropSelection_awaiting (t : Tag) : dropSelection t (s.awaiting q) = (dropSelection t s).awaiting q :=
  ite_awaiting rfl rfl

theorem releaseTag_awaiting (t : Tag) : releaseTag t (s.awaiting q) = (releaseTag t s).awaiting q := by
  refine ite_awaiting (ite_awaiting ?_ rfl) rfl
  rw [ite_awaiting (orphanTag_awaiting q s t) (freeTag_awaiting q s t), dropSelection_awaiting]
  rfl

theorem selectTag_awaiting (t : Tag) : selectTag t (s.awaiting q) = (selectTag t s).awaiting q :=
  ite_awaiting rfl rfl

theorem cmdPopResult_awaiting (operand : Byte) :
    cmdPopResult operand (s.awaiting q) = (cmdPopResult operand s).awaiting q := by
  simp only [cmdPopResult, results_awaiting, settlePop_eq]
  split <;> rfl

/-! ## The host's other commands and accesses -/

theorem cmdPopAttention_awaiting (operand : Byte) :
    cmdPopAttention operand (s.awaiting q) = (cmdPopAttention operand s).awaiting q := by
  have owe (r : AttnRecord) (s : State) : oweAttentionAck r (s.awaiting q) = (oweAttentionAck r s).awaiting q :=
    ite_awaiting rfl rfl
  have pop (rest : List AttnRecord) :
      { s.awaiting q with attnQueue := rest } = State.awaiting q { s with attnQueue := rest } := rfl
  simp only [cmdPopAttention, attnQueue_awaiting]
  split
  · rfl
  · rw [pop, updHost_awaiting, owe, setResult_awaiting]

theorem loseUnits_awaiting : loseUnits (s.awaiting q) = (loseUnits s).awaiting q := by
  have raise : (if anyPresent (s.awaiting q) then raiseUnit (s.awaiting q) else s.awaiting q)
      = (if anyPresent s then raiseUnit s else s).awaiting q := ite_awaiting rfl rfl
  rw [loseUnits, raise]
  rfl

@[simp] theorem linkLoss_awaiting (reason : LossReason) : linkLoss reason (s.awaiting q) = (linkLoss reason s).awaiting q := by
  have tags : loseTags (s.awaiting q) = (loseTags s).awaiting q := by
    rw [loseTags, settleAllTags_awaiting]
    rfl
  simp only [linkLoss, tags, loseUnits_awaiting, updLink_awaiting, changeState_awaiting]

@[simp] theorem loseEstablished_awaiting (reason : LossReason) :
    loseEstablished reason (s.awaiting q) = (loseEstablished reason s).awaiting q := by
  simp only [loseEstablished, link_awaiting, linkLoss_awaiting]
  split <;> rfl

theorem cmdLinkStart_awaiting (operand : Byte) :
    cmdLinkStart operand (s.awaiting q) = (cmdLinkStart operand s).awaiting q := by
  simp only [cmdLinkStart, link_awaiting]
  split <;> rfl

theorem cmdLinkStop_awaiting (operand : Byte) :
    cmdLinkStop operand (s.awaiting q) = (cmdLinkStop operand s).awaiting q := by
  simp only [cmdLinkStop, link_awaiting, linkLoss_awaiting, updLink_awaiting, changeState_awaiting, setResult_awaiting]
  split <;> rfl

theorem cmdSoftReset_awaiting (operand : Byte) :
    cmdSoftReset operand (s.awaiting q) = (cmdSoftReset operand s).awaiting q := rfl

theorem issueCommand_awaiting (code operand : Byte) :
    issueCommand code operand (s.awaiting q) = (issueCommand code operand s).awaiting q :=
  ite_awaiting (cmdSubmit_awaiting q s operand) <|
  ite_awaiting (onTag_awaiting q s (cancelTag_awaiting q s) operand) <|
  ite_awaiting (cmdPopResult_awaiting q s operand) <|
  ite_awaiting (onTag_awaiting q s (releaseTag_awaiting q s) operand) <|
  ite_awaiting (onTag_awaiting q s (selectTag_awaiting q s) operand) <|
  ite_awaiting (cmdPopAttention_awaiting q s operand) <|
  ite_awaiting rfl <| ite_awaiting rfl <|
  ite_awaiting (cmdLinkStart_awaiting q s operand) <|
  ite_awaiting (cmdLinkStop_awaiting q s operand) <|
  ite_awaiting (cmdSoftReset_awaiting q s operand) rfl

theorem writeStgDataL_awaiting (value : Halfword) : writeStgDataL value (s.awaiting q) = (writeStgDataL value s).awaiting q :=
  ite_awaiting rfl rfl

theorem readRdDataH_awaiting : readRdDataH (s.awaiting q) = (readRdDataH s).awaiting q := by
  simp only [readRdDataH, portWord_awaiting]
  split <;> rfl

theorem readRdDataL_awaiting : readRdDataL (s.awaiting q) = (readRdDataL s).awaiting q := by
  simp only [readRdDataL, portWord_awaiting]
  split <;> rfl

theorem writeUnitMask_awaiting (value : Halfword) :
    writeUnitMask value (s.awaiting q) = (writeUnitMask value s).awaiting q := by
  have held (u : UnitNo) : releaseHeld u (s.awaiting q) = (releaseHeld u s).awaiting q := by
    simp only [releaseHeld, unit_awaiting]
    split <;> rfl
  rw [writeUnitMask]
  exact congrArg (updUnit _ _) (ite_awaiting (held _) rfl)

theorem clearLinkCounter_awaiting (counter : LinkCounter) :
    clearLinkCounter counter (s.awaiting q) = (clearLinkCounter counter s).awaiting q := by
  cases counter <;> rfl

theorem accessUnused_awaiting (a : Access) : accessUnused a (s.awaiting q) = (accessUnused a s).awaiting q := by
  cases a <;> rfl

/-- A write to any register, the ill-formed rows of log entry 8 with it. -/
theorem writeRegister_awaiting (r : Reg) (value : Halfword) :
    writeRegister r value (s.awaiting q) = (writeRegister r value s).awaiting q := by
  cases r
  case cmd => exact issueCommand_awaiting q s _ _
  case stgDataL => exact writeStgDataL_awaiting q s value
  case unitMask => exact writeUnitMask_awaiting q s value
  all_goals rfl

/-! ## Replies and the timers of a tag -/

theorem acceptReply_awaiting (t : Tag) (b : ReplyBody) : acceptReply t b (s.awaiting q) = (acceptReply t b s).awaiting q := by
  have place (offset count : Nat) (words : List Word) :
      placeData t offset count words (s.awaiting q) = (placeData t offset count words s).awaiting q := ite_awaiting rfl rfl
  have placeReply : placeReply t b (s.awaiting q) = (placeReply t b s).awaiting q := by
    cases b with
    | data final short offset count words => exact place offset count words
    | done => rfl
    | refuse reason => rfl
  have report : postedReport t b (s.awaiting q) = (postedReport t b s).awaiting q := by
    cases b with
    | data final short offset count words => rfl
    | done => rfl
    | refuse reason => exact ite_awaiting rfl rfl
  have final : acceptFinal t b (s.awaiting q) = (acceptFinal t b s).awaiting q := by simp [acceptFinal, placeReply]
  refine ite_awaiting (by simp [acceptPosted, report]) ?_
  split
  · simp [acceptSegment, place]
  · exact final

theorem violateReply_awaiting (t : Tag) (b : ReplyBody) :
    violateReply t b (s.awaiting q) = (violateReply t b s).awaiting q := by
  have posted (final : Bool) : violatePosted t final (s.awaiting q) = (violatePosted t final s).awaiting q :=
    ite_awaiting (by simp) (by simp)
  have nonPosted (final : Bool) : violateNonPosted t final (s.awaiting q) = (violateNonPosted t final s).awaiting q := by
    cases final <;> simp [violateNonPosted]
  exact congrArg protocolError (ite_awaiting (posted b.isFinal) (nonPosted b.isFinal))

@[simp] theorem takeReply_awaiting (t : Tag) (u : UnitNo) (b : Option ReplyBody) :
    takeReply t u b (s.awaiting q) = (takeReply t u b s).awaiting q := by
  have late : lateFinal t (s.awaiting q) = (lateFinal t s).awaiting q := ite_awaiting rfl rfl
  have taken (b : ReplyBody) : takeMatched t b (s.awaiting q) = (takeMatched t b s).awaiting q :=
    ite_awaiting (ite_awaiting late rfl) (ite_awaiting (acceptReply_awaiting q s t b) (violateReply_awaiting q s t b))
  cases b with
  | none => rfl
  | some b => exact ite_awaiting (taken b) rfl

theorem expireReplyTimerOf_awaiting (t : Tag) :
    expireReplyTimerOf t (s.awaiting q) = (expireReplyTimerOf t s).awaiting q := by
  simp only [expireReplyTimerOf, tag_awaiting]
  split <;> rfl

theorem expireCancelTimerOf_awaiting (t : Tag) :
    expireCancelTimerOf t (s.awaiting q) = (expireCancelTimerOf t s).awaiting q := by
  simp only [expireCancelTimerOf, tag_awaiting, reportPosted_awaiting, orphanAndRelease_awaiting,
    completeAndRelease_awaiting]
  split
  · exact ite_awaiting rfl rfl
  · rfl

/-! ## Received frames -/

theorem deliver_awaiting (m : Inbound) : deliver m (s.awaiting q) = (deliver m s).awaiting q := by
  cases m with
  | replyData t u final short offset count words =>
    exact takeReply_awaiting q s t u (dataReply final short offset count words)
  | replyDone t u => exact takeReply_awaiting q s t u (some .done)
  | replyRefuse t u reason => exact takeReply_awaiting q s t u (refuseReply reason)
  | unitReport | reportEnd => exact ite_awaiting rfl rfl
  | unitGone u =>
    simp only [deliver, takeUnitGone, settleUnitTags_awaiting]
    generalize settleUnitTags u s = settled
    exact ite_awaiting rfl rfl
  | attention => exact ite_awaiting (ite_awaiting rfl rfl) rfl
  | undefined => rfl

/-- What passes its checks commutes where what it does in TRAINING and in a session does. -/
theorem receiveInEpoch_awaiting {epoch : Epoch} {inTraining inSession : State → State}
    (training : inTraining (s.awaiting q) = (inTraining s).awaiting q)
    (session : inSession (s.awaiting q) = (inSession s).awaiting q) :
    receiveInEpoch epoch inTraining inSession (s.awaiting q) = (receiveInEpoch epoch inTraining inSession s).awaiting q := by
  simp only [receiveInEpoch, link_awaiting, training, session]
  split
  case h_1 | h_2 => rfl
  all_goals exact ite_awaiting rfl rfl

theorem demandPass_awaiting : demandPass (s.awaiting q) = (demandPass s).awaiting q :=
  ite_awaiting rfl (loseEstablished_awaiting q s .replayLimit)

theorem takeAck_awaiting (n : SeqNo) : takeAck n (s.awaiting q) = (takeAck n s).awaiting q := ite_awaiting rfl rfl

theorem takeNak_awaiting (n : SeqNo) : takeNak n (s.awaiting q) = (takeNak n s).awaiting q := by
  simp only [takeNak, link_awaiting, replaySetting_awaiting, updSend_awaiting, demandPass_awaiting]
  exact ite_awaiting (ite_awaiting rfl (ite_awaiting rfl rfl)) rfl

theorem receiveMessage_awaiting (h : MsgHeader) (m : Inbound) :
    receiveMessage h m (s.awaiting q) = (receiveMessage h m s).awaiting q := by
  have discard : discardMessage h m (s.awaiting q) = (discardMessage h m s).awaiting q := ite_awaiting rfl rfl
  have sequence : sequenceMessage h.seq m (s.awaiting q) = (sequenceMessage h.seq m s).awaiting q :=
    ite_awaiting (deliver_awaiting q (updRecv ReceiveSide.delivered s) m) (ite_awaiting rfl rfl)
  have epoch := receiveInEpoch_awaiting (epoch := h.epoch) (inTraining := id) q s rfl sequence
  simp only [receiveMessage, link_awaiting, discard, epoch]
  split <;> rfl

theorem receiveTrain_awaiting : receiveTrain (s.awaiting q) = (receiveTrain s).awaiting q := by
  simp only [receiveTrain, link_awaiting, linkLoss_awaiting]
  split
  case h_3 | h_4 => exact ite_awaiting rfl rfl
  all_goals rfl

theorem receiveTrainAck_awaiting (epoch : Epoch) :
    receiveTrainAck epoch (s.awaiting q) = (receiveTrainAck epoch s).awaiting q := receiveInEpoch_awaiting q s rfl rfl

theorem receiveAck_awaiting (epoch : Epoch) (n : SeqNo) :
    receiveAck epoch n (s.awaiting q) = (receiveAck epoch n s).awaiting q :=
  receiveInEpoch_awaiting q s rfl (takeAck_awaiting q s n)

theorem receiveNak_awaiting (epoch : Epoch) (n : SeqNo) :
    receiveNak epoch n (s.awaiting q) = (receiveNak epoch n s).awaiting q :=
  receiveInEpoch_awaiting q s rfl (takeNak_awaiting q s n)

theorem receiveRaw_awaiting (f : RawFrame) : receiveRaw f (s.awaiting q) = (receiveRaw f s).awaiting q := by
  unfold receiveRaw
  split
  · simp only [receiveBroken, link_awaiting]
    split <;> rfl
  · next frame _ =>
    cases frame with
    | train e => exact receiveTrain_awaiting q s
    | trainAck e => exact receiveTrainAck_awaiting q s e
    | ack e n => exact receiveAck_awaiting q s e n
    | nak e n => exact receiveNak_awaiting q s e n
    | message h body => exact receiveMessage_awaiting q s h _

/-! ## The link's timers -/

theorem endTrainingInterval_awaiting : endTrainingInterval (s.awaiting q) = (endTrainingInterval s).awaiting q := by
  simp only [endTrainingInterval, link_awaiting]
  split
  · rfl
  · exact ite_awaiting (ite_awaiting rfl rfl) rfl

theorem expireDiscoveryTimer_awaiting : expireDiscoveryTimer (s.awaiting q) = (expireDiscoveryTimer s).awaiting q := by
  simp only [expireDiscoveryTimer, link_awaiting, updLink_awaiting, linkLoss_awaiting]
  split
  · rfl
  · exact ite_awaiting rfl rfl

theorem expireReplayTimer_awaiting : expireReplayTimer (s.awaiting q) = (expireReplayTimer s).awaiting q := by
  simp only [expireReplayTimer, link_awaiting, updSend_awaiting, demandPass_awaiting]
  split <;> rfl

theorem expireAckDelay_awaiting : expireAckDelay (s.awaiting q) = (expireAckDelay s).awaiting q := by
  simp only [expireAckDelay, link_awaiting]
  split <;> rfl

theorem expireRestartTimer_awaiting : expireRestartTimer (s.awaiting q) = (expireRestartTimer s).awaiting q := by
  simp only [expireRestartTimer, link_awaiting]
  split
  · rfl
  · exact ite_awaiting rfl rfl

theorem holdoffExpiry_awaiting : holdoffExpiry (s.awaiting q) = (holdoffExpiry s).awaiting q := by
  simp only [holdoffExpiry, events_awaiting]
  split <;> rfl

/-! ## Takes of the transmitter -/

theorem takeItem_awaiting {item : TxItem} {effect : State → State}
    (h : effect (s.awaiting q) = (effect s).awaiting q) :
    takeItem item effect (s.awaiting q) = (takeItem item effect s).awaiting q := ite_awaiting h rfl

theorem takeReplayItem_awaiting : takeReplayItem (s.awaiting q) = (takeReplayItem s).awaiting q := by
  simp only [takeReplayItem, link_awaiting]
  split <;> rfl

theorem takeAttentionAckItem_awaiting : takeAttentionAckItem (s.awaiting q) = (takeAttentionAckItem s).awaiting q := by
  simp only [takeAttentionAckItem, ackOwedUnit_awaiting]
  split <;> rfl

theorem takeCancelItem_awaiting : takeCancelItem (s.awaiting q) = (takeCancelItem s).awaiting q := by
  simp only [takeCancelItem, owedCancels_awaiting]
  split <;> rfl

theorem takeRequestItem_awaiting : takeRequestItem (s.awaiting q) = (takeRequestItem s).awaiting q := by
  simp only [takeRequestItem, dispatchChoice_awaiting]
  split <;> rfl

end

/-! ## Every command -/

/-- What is taken in a state whatever waits: it answers a next state, and with another queue the same state with that
queue. -/
def QueueBlind (taken : State → Host.Outcome State Fault Refusal) (s : State) : Prop :=
  Answers (taken s) (fun t => ∀ q, taken (s.awaiting q) = .next (t.awaiting q))

/-- An event is taken whatever waits where its effect commutes with the queue. -/
theorem queueBlind_takeEvent {effect : State → State} {s : State}
    (commutes : ∀ q, effect (s.awaiting q) = (effect s).awaiting q) : QueueBlind (takeEvent effect) s := by
  obtain asserted | released := Bool.eq_false_or_eq_true s.resetAsserted
  · exact ⟨s, takeEvent_of_asserted asserted effect, fun q => takeEvent_of_asserted (s := s.awaiting q) asserted effect⟩
  · refine ⟨_, takeEvent_of_released released effect, fun q => ?_⟩
    rw [takeEvent_of_released (s := s.awaiting q) released, commutes]
    rfl

/-- A read likewise. -/
theorem queueBlind_takeRead {effect : State → State} {s : State}
    (commutes : ∀ q, effect (s.awaiting q) = (effect s).awaiting q) : QueueBlind (takeRead effect) s := by
  obtain asserted | released := Bool.eq_false_or_eq_true s.resetAsserted
  · exact ⟨_, takeRead_of_asserted asserted effect, fun q => takeRead_of_asserted (s := s.awaiting q) asserted effect⟩
  · obtain ⟨t, answer, blind⟩ := queueBlind_takeEvent commutes
    exact ⟨t, (takeRead_of_released released effect).trans answer,
      fun q => (takeRead_of_released (s := s.awaiting q) released effect).trans (blind q)⟩

/-- Every command is taken whatever waits. -/
theorem queueBlind_exec (c : Instr) (s : State) : QueueBlind (exec c) s := by
  cases c with
  | submit operand => exact queueBlind_takeEvent fun q => cmdSubmit_awaiting q s operand
  | cancel operand => exact queueBlind_takeEvent fun q => onTag_awaiting q s (cancelTag_awaiting q s) operand
  | popResult operand => exact queueBlind_takeEvent fun q => cmdPopResult_awaiting q s operand
  | release operand => exact queueBlind_takeEvent fun q => onTag_awaiting q s (releaseTag_awaiting q s) operand
  | select operand => exact queueBlind_takeEvent fun q => onTag_awaiting q s (selectTag_awaiting q s) operand
  | popAttention operand => exact queueBlind_takeEvent fun q => cmdPopAttention_awaiting q s operand
  | linkStart operand => exact queueBlind_takeEvent fun q => cmdLinkStart_awaiting q s operand
  | linkStop operand => exact queueBlind_takeEvent fun q => cmdLinkStop_awaiting q s operand
  | badCode code operand => exact queueBlind_takeEvent fun q => issueCommand_awaiting q s code operand
  | stgDataLWrite value => exact queueBlind_takeEvent fun q => writeStgDataL_awaiting q s value
  | rdDataHRead => exact queueBlind_takeRead fun q => readRdDataH_awaiting q s
  | rdDataLRead => exact queueBlind_takeRead fun q => readRdDataL_awaiting q s
  | unitMaskWrite value => exact queueBlind_takeEvent fun q => writeUnitMask_awaiting q s value
  | linkCounterWrite counter value => exact queueBlind_takeEvent fun q => clearLinkCounter_awaiting q s counter
  | unusedOffsetAccess place access =>
    cases access with
    | read => exact queueBlind_takeRead fun q => accessUnused_awaiting q s .read
    | write value => exact queueBlind_takeEvent fun q => accessUnused_awaiting q s (.write value)
  | registerWrite r value => exact queueBlind_takeEvent fun q => writeRegister_awaiting q s r value
  | resetN asserted => cases asserted <;> exact ⟨_, rfl, fun q => rfl⟩
  | lossOfSignal => exact queueBlind_takeEvent fun q => loseEstablished_awaiting q s .signalLost
  | train epoch => exact queueBlind_takeEvent fun q => receiveTrain_awaiting q s
  | trainAck epoch => exact queueBlind_takeEvent fun q => receiveTrainAck_awaiting q s epoch
  | ack epoch n => exact queueBlind_takeEvent fun q => receiveAck_awaiting q s epoch n
  | nak epoch n => exact queueBlind_takeEvent fun q => receiveNak_awaiting q s epoch n
  | frameCheckFailure f => exact queueBlind_takeEvent fun q => receiveRaw_awaiting q s f
  | messageOutOfSequence h | replyData h | replyDone h | replyRefuse h | unitReport h | reportEnd h | unitGone h
  | attention h | undefinedMessage h => exact queueBlind_takeEvent fun q => receiveMessage_awaiting q s h _
  | replyTimerExpiry t => exact queueBlind_takeEvent fun q => expireReplyTimerOf_awaiting q s t
  | cancelTimerExpiry t => exact queueBlind_takeEvent fun q => expireCancelTimerOf_awaiting q s t
  | trainingIntervalEnd => exact queueBlind_takeEvent fun q => endTrainingInterval_awaiting q s
  | discoveryTimerExpiry => exact queueBlind_takeEvent fun q => expireDiscoveryTimer_awaiting q s
  | replayTimerExpiry => exact queueBlind_takeEvent fun q => expireReplayTimer_awaiting q s
  | ackDelayTimerExpiry => exact queueBlind_takeEvent fun q => expireAckDelay_awaiting q s
  | restartTimerExpiry => exact queueBlind_takeEvent fun q => expireRestartTimer_awaiting q s
  | holdoffTimerExpiry => exact queueBlind_takeEvent fun q => holdoffExpiry_awaiting q s
  | nakTake | ackTake | trainTake => exact queueBlind_takeEvent fun q => takeItem_awaiting q s rfl
  | replayTake => exact queueBlind_takeEvent fun q => takeItem_awaiting q s (takeReplayItem_awaiting q s)
  | attentionAckTake => exact queueBlind_takeEvent fun q => takeItem_awaiting q s (takeAttentionAckItem_awaiting q s)
  | cancelTake => exact queueBlind_takeEvent fun q => takeItem_awaiting q s (takeCancelItem_awaiting q s)
  | requestTake => exact queueBlind_takeEvent fun q => takeItem_awaiting q s (takeRequestItem_awaiting q s)
  | clearStaging | clearPosted | softReset | stgDataHWrite | linkCtrlWrite | eventsWrite | eventEnWrite
  | resultCoalesceWrite | protoErrorsWrite | transmitEnd => exact queueBlind_takeEvent fun q => rfl

/-- Settles O2: a command answers the same whatever waits; for the queue that waits already, this says that its answer keeps
that queue. -/
theorem commandsProceedWhateverWaits : Obligations.CommandsProceedWhateverWaits := by
  intro s c waiting
  obtain ⟨t, answer, blind⟩ := queueBlind_exec c s
  have same : Host.Outcome.next t = .next (t.awaiting s.pending) := answer.symm.trans (blind s.pending)
  have kept : t = t.awaiting s.pending := Host.Outcome.next.inj same
  have pending : t.pending = (t.awaiting s.pending).pending := congrArg State.pending kept
  exact ⟨t, answer, pending, blind waiting⟩

end Sys2Proof.Machine
end

section
/-! SUPPORT. A write to CMD, by its code (O8). -/

namespace Sys2Proof

/-! ## The two bytes of a write to CMD (Table 9.8) -/

theorem highByte_append (code operand : Byte) : ((code ++ operand : Halfword).extractLsb' 8 8 : Byte) = code :=
  BitVec.extractLsb'_append_eq_left

theorem lowByte_append (code operand : Byte) : ((code ++ operand : Halfword).extractLsb' 0 8 : Byte) = operand :=
  BitVec.extractLsb'_append_eq_right

/-- The write of a code that is one of the eleven is that command, with the operand of the write. -/
theorem decodeCommand_of_defined (operand : Byte) :
    decodeCommand (0x01#8 ++ operand) = .submit operand ∧ decodeCommand (0x02#8 ++ operand) = .cancel operand
      ∧ decodeCommand (0x03#8 ++ operand) = .popResult operand ∧ decodeCommand (0x04#8 ++ operand) = .release operand
      ∧ decodeCommand (0x05#8 ++ operand) = .select operand ∧ decodeCommand (0x06#8 ++ operand) = .popAttention operand
      ∧ decodeCommand (0x07#8 ++ operand) = .clearStaging operand ∧ decodeCommand (0x08#8 ++ operand) = .clearPosted operand
      ∧ decodeCommand (0x09#8 ++ operand) = .linkStart operand ∧ decodeCommand (0x0A#8 ++ operand) = .linkStop operand
      ∧ decodeCommand (0x0F#8 ++ operand) = .softReset operand := by
  simp only [decodeCommand, highByte_append, lowByte_append]
  exact ⟨rfl, rfl, rfl, rfl, rfl, rfl, rfl, rfl, rfl, rfl, rfl⟩

theorem decodeCommand_of_undefined {code : Byte} (undefined : code ∉ definedCommandCodes) (operand : Byte) :
    decodeCommand (code ++ operand) = .badCode code operand := by
  simp only [definedCommandCodes, List.mem_cons, List.not_mem_nil, or_false, not_or] at undefined
  simp only [decodeCommand, highByte_append, lowByte_append, undefined, if_false]

end Sys2Proof

namespace Sys2Proof.Machine

/-! ## Commands that are done, and commands that are refused -/

/-- What a refused command does (R144): it sets CMD_RESULT, and a pop from an empty queue clears its view's valid flag. -/
def RefusalOnly (code : Byte) (s t : State) : Prop :=
  t = { s with host := { s.host with
        cmdResult := t.host.cmdResult, resultView := t.host.resultView, attnView := t.host.attnView } }
    ∧ (t.host.resultView = s.host.resultView
      ∨ (code = 0x03#8 ∧ s.results = [] ∧ t.host.resultView = { s.host.resultView with valid := false }))
    ∧ (t.host.attnView = s.host.attnView
      ∨ (code = 0x06#8 ∧ s.attnQueue = [] ∧ t.host.attnView = { s.host.attnView with valid := false }))

/-- A command ends with DONE, or is refused. -/
def DoneOrRefused (code : Byte) (s t : State) : Prop := t.host.cmdResult = .done ∨ RefusalOnly code s t

section
variable {code : Byte} {s : State}

theorem doneOrRefused_done (t : State) : DoneOrRefused code s (setResult .done t) := .inl rfl

theorem doneOrRefused_setResult (r : CmdResult) : DoneOrRefused code s (setResult r s) := .inr ⟨rfl, .inl rfl, .inl rfl⟩

/-- A command chosen by its code, and the commands after it. -/
theorem doneOrRefused_ite {p : Prop} [Decidable p] {a b : State} (chosen : p → DoneOrRefused code s a)
    (others : DoneOrRefused code s b) : DoneOrRefused code s (if p then a else b) := by
  split
  · next named => exact chosen named
  · exact others

theorem doneOrRefused_onTag {command : Tag → State → State} (h : ∀ t, DoneOrRefused code s (command t s))
    (operand : Byte) : DoneOrRefused code s (onTag operand command s) := by
  unfold onTag
  split
  · exact doneOrRefused_setResult _
  · exact h _

theorem doneOrRefused_cmdSubmit (operand : Byte) : DoneOrRefused code s (cmdSubmit operand s) := by
  unfold cmdSubmit
  split
  · exact doneOrRefused_done _
  · exact doneOrRefused_setResult _

theorem doneOrRefused_cancelTag (t : Tag) : DoneOrRefused code s (cancelTag t s) := by
  refine doneOrRefused_ite (fun _ => doneOrRefused_setResult _) ?_
  split
  case h_6 | h_7 | h_8 | h_9 => exact doneOrRefused_setResult _
  all_goals exact doneOrRefused_done _

theorem doneOrRefused_releaseTag (t : Tag) : DoneOrRefused code s (releaseTag t s) :=
  doneOrRefused_ite (fun _ => doneOrRefused_ite (fun _ => doneOrRefused_done _) (doneOrRefused_setResult _))
    (doneOrRefused_setResult _)

theorem doneOrRefused_selectTag (t : Tag) : DoneOrRefused code s (selectTag t s) :=
  doneOrRefused_ite (fun _ => doneOrRefused_done _) (doneOrRefused_setResult _)

/-- POP_RESULT is refused where the queue is empty, and the result view then shows no valid record (R12). -/
theorem doneOrRefused_cmdPopResult (named : code = 0x03#8) (operand : Byte) :
    DoneOrRefused code s (cmdPopResult operand s) := by
  unfold cmdPopResult
  split
  · next empty => exact .inr ⟨rfl, .inr ⟨named, empty, rfl⟩, .inl rfl⟩
  · exact doneOrRefused_done _

/-- POP_ATTENTION likewise, with the attention view (R107). -/
theorem doneOrRefused_cmdPopAttention (named : code = 0x06#8) (operand : Byte) :
    DoneOrRefused code s (cmdPopAttention operand s) := by
  unfold cmdPopAttention
  split
  · next empty => exact .inr ⟨rfl, .inl rfl, .inr ⟨named, empty, rfl⟩⟩
  · exact doneOrRefused_done _

theorem doneOrRefused_cmdLinkStart (operand : Byte) : DoneOrRefused code s (cmdLinkStart operand s) := by
  unfold cmdLinkStart
  split
  case h_1 | h_2 => exact doneOrRefused_done _
  all_goals exact doneOrRefused_setResult _

/-- LINK_STOP is never refused (R131). -/
theorem doneOrRefused_cmdLinkStop (operand : Byte) : DoneOrRefused code s (cmdLinkStop operand s) := by
  unfold cmdLinkStop
  split <;> exact doneOrRefused_done _

theorem doneOrRefused_issueCommand (operand : Byte) : DoneOrRefused code s (issueCommand code operand s) :=
  doneOrRefused_ite (fun _ => doneOrRefused_cmdSubmit operand) <|
  doneOrRefused_ite (fun _ => doneOrRefused_onTag doneOrRefused_cancelTag operand) <|
  doneOrRefused_ite (fun named => doneOrRefused_cmdPopResult named operand) <|
  doneOrRefused_ite (fun _ => doneOrRefused_onTag doneOrRefused_releaseTag operand) <|
  doneOrRefused_ite (fun _ => doneOrRefused_onTag doneOrRefused_selectTag operand) <|
  doneOrRefused_ite (fun named => doneOrRefused_cmdPopAttention named operand) <|
  doneOrRefused_ite (fun _ => doneOrRefused_done _) <|
  doneOrRefused_ite (fun _ => doneOrRefused_done _) <|
  doneOrRefused_ite (fun _ => doneOrRefused_cmdLinkStart operand) <|
  doneOrRefused_ite (fun _ => doneOrRefused_cmdLinkStop operand) <|
  doneOrRefused_ite (fun _ => .inl rfl) <|
  doneOrRefused_setResult .badCode

/-- The answer of a command: the appends of an accepted one leave its DONE, and a refused one appends nothing. -/
theorem answers_of_doneOrRefused {effect : State → State} (released : s.resetAsserted = false)
    (h : DoneOrRefused code s (effect s)) :
    Answers (takeEvent effect s) (fun t => t.host.cmdResult ≠ .done → RefusalOnly code s t) := by
  obtain done | refused := h
  · exact ⟨_, takeEvent_of_released released effect, fun other => absurd done other⟩
  · have results : (effect s).results = s.results := by rw [refused.1]
    exact ⟨_, takeEvent_of_no_append released (Nat.le_of_eq (congrArg List.length results)), fun _ => refused⟩

end

/-- Settles O8: the code alone decides the command, and each command ends with DONE or is refused. -/
theorem refusedCommandsChangeResultOnly : Obligations.RefusedCommandsChangeResultOnly := by
  intro s code operand released
  obtain ⟨submit, cancel, popResult, release, select, popAttention, clearStaging, clearPosted, linkStart, linkStop,
    softReset⟩ := decodeCommand_of_defined operand
  refine ⟨rfl, submit, cancel, popResult, release, select, popAttention, clearStaging, clearPosted, linkStart, linkStop,
    softReset, fun undefined => ?_, fun above => ?_, ?_⟩
  · exact ⟨decodeCommand_of_undefined undefined operand,
      takeEvent_next released (issueCommand_of_undefined undefined operand s) (Nat.le_refl _)⟩
  · have refused (command : Tag → State → State) : takeEvent (onTag operand command) s = .next (withResult .badTag s) :=
      takeEvent_next released (onTag_of_le above command s) (Nat.le_refl _)
    exact ⟨refused cancelTag, refused releaseTag, refused selectTag⟩
  · rw [exec_decodeCommand, highByte_append, lowByte_append]
    exact answers_of_doneOrRefused released (doneOrRefused_issueCommand operand)

end Sys2Proof.Machine
end

section
/-! SUPPORT. The two resets (O3, O18), and the accesses that only set ACCESS (O21). -/

namespace Sys2Proof.Machine

/-! ## The resets -/

/-- While RESET_N is asserted every command but the pin's own leaves the part as it is, a read apart, which returns 0 (R147). -/
theorem exec_of_asserted {s : State} (asserted : s.resetAsserted = true) {c : Instr} (other : ∀ b, c ≠ .resetN b) :
    exec c s = .next s ∨ exec c s = .next { s with host := { s.host with readData := 0 } } := by
  cases c
  case resetN b => exact absurd rfl (other b)
  case rdDataHRead | rdDataLRead => exact .inr (takeRead_of_asserted asserted _)
  case unusedOffsetAccess place access =>
    cases access with
    | read => exact .inr (takeRead_of_asserted asserted _)
    | write value => exact .inl (takeEvent_of_asserted asserted _)
  all_goals exact .inl (takeEvent_of_asserted asserted _)

theorem intAsserted_of_asserted {s : State} (asserted : s.resetAsserted = true) : intAsserted s = false := by
  rw [intAsserted, asserted]
  rfl

/-- Settles O3: what RESET_N does, and what an event and a read do while it is asserted. -/
theorem resetPinHoldsPart : Obligations.ResetPinHoldsPart := by
  intro s c n place
  refine ⟨rfl, rfl, fun asserted => ?_⟩
  have read (effect : State → State) := takeRead_of_asserted asserted effect
  refine ⟨readOffset_of_asserted asserted n, intAsserted_of_asserted asserted, fun other => ?_,
    read readRdDataH, read readRdDataL, read (accessUnused .read), read (readEventAt n)⟩
  obtain answer | answer := exec_of_asserted asserted other
  · exact ⟨s, answer, rfl⟩
  · exact ⟨_, answer, rfl⟩

/-- A unit's record after SOFT_RESET: what the host owns of it is kept (Table 10.4). -/
theorem unit_cmdSoftReset (operand : Byte) (s : State) (u : UnitNo) :
    (cmdSoftReset operand s).unit u = softResetUnit (s.unit u) := get_mapTable softResetUnit s.units u

/-- Settles O18: the effect of SOFT_RESET is its answer, for it leaves the result queue empty. -/
theorem softResetKeepsSettings : Obligations.SoftResetKeepsSettings := by
  intro s operand released
  refine ⟨cmdSoftReset operand s, takeEvent_next released rfl (Nat.zero_le _), unit_cmdSoftReset operand s, ?_⟩
  rw [cmdSoftReset, released]
  rfl

/-! ## Accesses that are ignored -/

/-- The read-only registers (Table 10.1). -/
def readOnlyRegisters : List Reg :=
  [.id, .cmdResult, .linkState, .stgCount, .lastTag, .resViewA, .resViewB, .resWords, .rdDataH, .rdDataL,
    .attnView, .attnCause, .unitInfo, .unitClass, .unitCaps, .postedFailA, .postedFailAddrH, .postedFailAddrL,
    .postedOverflow, .levelsA, .levelsB]

theorem writeRegister_of_readOnly {r : Reg} (readOnly : r ∈ readOnlyRegisters) (value : Halfword) (s : State) :
    writeRegister r value s = raiseAccess s := by
  cases r
  case cmd | events | eventEn | resultCoalesce | linkCtrl | linkTiming | rxErrors | replayCount | stgCmd | stgAddrH
      | stgAddrL | stgLenLanes | stgDataH | stgDataL | unitSel | unitTimeout | unitMask | protoErrors =>
    exact absurd readOnly (by decide)
  all_goals rfl

/-- No register stands behind the 39 of Table 9.7. -/
theorem ofIndex_of_unused {n : Fin 64} (unused : 39 ≤ n.val) : Reg.ofIndex n = none := List.getElem?_eq_none unused

/-- Settles O21: a write to a read-only register and an access to an unused offset are the event that sets ACCESS. -/
theorem ignoredAccessesSetAccess : Obligations.IgnoredAccessesSetAccess := by
  intro s value place n released
  refine ⟨fun r readOnly => ?_, ?_, ?_, fun unused => ?_⟩
  · exact takeEvent_next released (writeRegister_of_readOnly readOnly value s) (Nat.le_refl _)
  · exact takeEvent_next (effect := accessUnused (.write value)) released rfl (Nat.le_refl _)
  · exact takeRead_next (effect := accessUnused .read) released rfl (Nat.le_refl _)
  · exact ⟨readOffset_of_unused (ofIndex_of_unused unused) s, decodeHostWrite_of_unused (ofIndex_of_unused unused) value⟩

end Sys2Proof.Machine
end

section
/-! SUPPORT. The event flags, INT_N and result coalescing (O23, O24). -/

namespace Sys2Proof.Machine

/-! ## The flags and the line -/

/-- The seven flags from bit 0 of EVENTS up (Table 11.1). -/
def flagList (s : State) : List Bool :=
  [s.events.result, !s.attnQueue.isEmpty, s.events.link, s.events.unit, s.events.posted, s.events.proto, s.events.access]

theorem eventFlags_eq_ofBoolListLE (s : State) : eventFlags s = BitVec.ofBoolListLE (flagList s) := by
  apply BitVec.eq_of_toNat_eq
  rw [toNat_eventFlags]
  have nil : (BitVec.ofBoolListLE []).toNat = 0 := rfl
  have cons (b : Bool) (l : List Bool) :
      (BitVec.ofBoolListLE (b :: l)).toNat = (BitVec.ofBoolListLE l).toNat * 2 + b.toNat := BitVec.toNat_concat _ b
  simp only [flagList, cons, nil]
  omega

theorem getLsbD_eventFlags (s : State) (i : Nat) : (eventFlags s).getLsbD i = (flagList s).getD i false := by
  rw [eventFlags_eq_ofBoolListLE]
  exact BitVec.getLsbD_ofBoolListLE

/-- Two words share a set bit. -/
theorem and_bne_zero_iff {w : Nat} (x y : BitVec w) :
    ((x &&& y) != 0) = true ↔ ∃ i : Fin w, x.getLsbD i = true ∧ y.getLsbD i = true := by
  rw [bne_iff_ne, ← not_iff_not]
  constructor
  · rintro none ⟨i, hx, hy⟩
    have both : (x &&& y).getLsbD i = true := by rw [BitVec.getLsbD_and, hx, hy, Bool.and_self]
    simp [not_not.mp none] at both
  · refine fun none => not_not.mpr (BitVec.eq_of_getLsbD_eq fun i hi => ?_)
    have apart : ¬ (x.getLsbD i = true ∧ y.getLsbD i = true) := fun both => none ⟨⟨i, hi⟩, both⟩
    simpa using apart

/-- Out of reset INT_N is asserted exactly while a flag is set whose enable is set (R152). -/
theorem intAsserted_iff {s : State} (released : s.resetAsserted = false) :
    intAsserted s = true ↔ ∃ i : Fin 7, (eventFlags s).getLsbD i = true ∧ s.events.enables.getLsbD i = true := by
  rw [intAsserted, released, Bool.not_false, Bool.true_and, and_bne_zero_iff]

/-- INT_N follows from what EVENTS and EVENT_EN show. -/
theorem intAsserted_eq_registers {s : State} (released : s.resetAsserted = false) :
    intAsserted s = ((readRegister .events s &&& readRegister .eventEn s) != 0) := by
  have shown : readRegister .events s &&& readRegister .eventEn s = (eventFlags s &&& s.events.enables).setWidth 16 :=
    BitVec.setWidth_and.symm
  have zero : (eventFlags s &&& s.events.enables).setWidth 16 = 0 ↔ eventFlags s &&& s.events.enables = 0 := by
    rw [← BitVec.toNat_inj, ← BitVec.toNat_inj, BitVec.toNat_setWidth_of_le (by decide)]
    rfl
  rw [intAsserted, released, shown, Bool.not_false, Bool.true_and, Bool.eq_iff_iff, bne_iff_ne, bne_iff_ne, ne_eq, ne_eq,
    zero]

/-! ## Writes to EVENTS and EVENT_EN -/

/-- A write to EVENTS clears the sticky flags, bits 2 to 6, written as 1 (R151). -/
theorem readRegister_writeEvents (value : Halfword) (s : State) :
    readRegister .events (writeEvents value s) = readRegister .events s &&& ~~~(value &&& 0x007C#16) := by
  change (eventFlags (writeEvents value s)).setWidth 16 = (eventFlags s).setWidth 16 &&& ~~~(value &&& 0x007C#16)
  refine BitVec.eq_of_getLsbD_eq fun i hi => ?_
  simp only [BitVec.getLsbD_and, BitVec.getLsbD_not, BitVec.getLsbD_setWidth, getLsbD_eventFlags, hi]
  match i with
  | 0 | 1 | 2 | 3 | 4 | 5 | 6 => simp [flagList, writeEvents, clearSticky, updEvents]
  | i + 7 => rfl

/-- EVENT_EN shows the seven written enables (R152). -/
theorem readRegister_writeEventEn (value : Halfword) (s : State) :
    readRegister .eventEn (writeEventEn value s) = value &&& 0x007F#16 :=
  calc (value.extractLsb' 0 7).setWidth 16
      = field 0 (value.extractLsb' 0 7).toNat := by rw [setWidth_eq_ofNat, field_zero]
    _ = value &&& 0x007F#16 := field_extractLsb' 0 7 value

theorem intAsserted_writeEventEn {s : State} (released : s.resetAsserted = false) (value : Halfword) :
    intAsserted (writeEventEn value s) = ((readRegister .events s &&& value &&& 0x007F#16) != 0) := by
  have flags : readRegister .events (writeEventEn value s) = readRegister .events s := rfl
  rw [intAsserted_eq_registers (s := writeEventEn value s) released, flags, readRegister_writeEventEn, BitVec.and_assoc]

/-- Settles O23: the two writes by what EVENTS and EVENT_EN show after them, and INT_N bit by bit. -/
theorem eventWritesDriveInterruptLine : Obligations.EventWritesDriveInterruptLine := by
  intro s value released
  refine ⟨answers_effect released rfl rfl ⟨rfl, readRegister_writeEvents value s⟩,
    answers_effect released rfl rfl ⟨rfl, readRegister_writeEventEn value s, intAsserted_writeEventEn released value⟩, ?_⟩
  simp only [intAsserted_iff released, getLsbD_eventFlags]
  simp [flagList, Fin.exists_fin_succ]

/-! ## Result coalescing -/

/-- The low six bits, bounded to 1 to 32, are stored, and compared with the queue's count at the write (R153, R154). -/
theorem writeCoalesce_eq (value : Halfword) (s : State) :
    writeCoalesce value s = { s with events := { s.events with
      holdoff := value.extractLsb' 8 8
      threshold := storedThreshold (value.toNat % 64)
      result := s.events.result
        || decide (s.results ≠ [] ∧ storedThreshold (value.toNat % 64) ≤ s.results.length) } } := by
  have written : (value.extractLsb' 0 6).toNat = value.toNat % 64 := by simp
  have reached (n : Nat) :
      (!s.results.isEmpty && decide (n ≤ s.results.length)) = decide (s.results ≠ [] ∧ n ≤ s.results.length) := by
    cases s.results <;> simp
  rw [writeCoalesce, written, reached]
  rfl

/-- RESULT_COALESCE: the holdoff in bits 15 to 8 as written, the stored threshold below it (R153). -/
theorem readRegister_writeCoalesce (value : Halfword) (s : State) :
    readRegister .resultCoalesce (writeCoalesce value s)
      = (value &&& 0xFF00#16) ||| BitVec.ofNat 16 (storedThreshold (value.toNat % 64)) := by
  rw [writeCoalesce_eq]
  change field 8 (value.extractLsb' 8 8).toNat ||| field 0 _ = _
  rw [field_extractLsb', field_zero]
  rfl

/-- The expiry of a running holdoff timer stops it and sets RESULT where the queue holds a record (R154). -/
theorem holdoffExpiry_of_running {s : State} (running : s.events.holdoffTimer.isSome = true) :
    holdoffExpiry s = { s with events := { s.events with
      holdoffTimer := none, result := s.events.result || decide (s.results ≠ []) } } := by
  obtain ⟨t, timer⟩ := Option.isSome_iff_exists.mp running
  have waiting : (!s.results.isEmpty) = decide (s.results ≠ []) := by cases s.results <;> rfl
  rw [holdoffExpiry, timer, waiting]
  rfl

/-- A stopped holdoff timer does not expire. -/
theorem holdoffExpiry_of_stopped {s : State} (stopped : s.events.holdoffTimer = none) : holdoffExpiry s = s := by
  rw [holdoffExpiry, stopped]

/-- Settles O24: the write by what it stores and shows, the expiry by whether its timer runs. -/
theorem coalescingRaisesResult : Obligations.CoalescingRaisesResult := by
  intro s value released
  refine ⟨answers_effect released rfl rfl ⟨writeCoalesce_eq value s, readRegister_writeCoalesce value s⟩,
    fun running => ?_, fun stopped => ?_⟩
  · exact takeEvent_next released (holdoffExpiry_of_running running) (Nat.le_refl _)
  · exact takeEvent_next released (holdoffExpiry_of_stopped stopped) (Nat.le_refl _)

end Sys2Proof.Machine
end
